-- ==== Sys2Proof/Word.lean ====
section
/-! DEFINITION. The word types of the datapath (00_scope.md R11, R12): unsigned bit patterns, bit 0 least significant. -/

namespace Sys2Proof

/-- `u32`: the datapath word and the width of every host access (R9, R12, R63). -/
abbrev Word := BitVec 32

/-- `u8`: an unsigned byte (R11, R12). -/
abbrev Byte := BitVec 8

/-- `u6`: a table index or a salt value (R12, R100). -/
abbrev Sextet := BitVec 6

end Sys2Proof
end

