-- ==== Sys2Proof/Syntax.lean ====
section
/-! DEFINITION. The engine's commands, the command word's format, the register names of the window, and the statements of
the spec's host assembly. -/

namespace Sys2Proof

/-- The seven commands (30_encoding.md R82), one constructor per row of the opcode table. A command carries no operand
(R83). -/
inductive Instr where
  /-- NOP (46_control.md R190). -/
  | nop
  /-- KEYSCHED (42_key_scheduler.md R140). -/
  | keysched
  /-- SALTMIX (43_salt_mixer.md R153). -/
  | saltmix
  /-- ENCRYPT (44_feistel.md R171). -/
  | encrypt
  /-- ENCODE (45_encoder.md R182). -/
  | encode
  /-- HASH (46_control.md R191). -/
  | hash
  /-- CLEAR (46_control.md R192). -/
  | clear
  deriving DecidableEq, Repr

/-- The one command format CMD32 (30_encoding.md R81): bits 31:4 must be zero, bits 3:0 are the opcode. -/
structure Cmd32 where
  mbz : BitVec 28
  op  : BitVec 4
  deriving DecidableEq, Repr

/-- The 64 word registers of the window (10_state.md R23), the reserved offsets among them. -/
inductive Reg where
  | cmd | status | irqEn | secretLen | secret0 | secret1 | salt | saltEff | eswap0 | eswap1 | out0 | out1
  | resultLen | errCause | errWord
  /-- Offset 0x03C. -/
  | reserved3C
  | result0 | result1 | result2 | result3
  /-- Offsets 0x050 to 0x07C. -/
  | reserved50 (i : Fin 12)
  /-- KS[i], offset 0x080 + 4i. -/
  | ks (i : Fin 32)
  deriving DecidableEq, Repr

/-- A machine statement of the host assembly (30_encoding.md R87). A label is the index of the statement it names. -/
inductive HostStmt where
  /-- `wr REG, imm`. -/
  | wr (r : Reg) (imm : Word)
  /-- `rd hN, REG`. -/
  | rd (h : Fin 8) (r : Reg)
  /-- `bit1 hN, k, label`. -/
  | bit1 (h : Fin 8) (k : Fin 32) (label : Nat)
  /-- `bit0 hN, k, label`. -/
  | bit0 (h : Fin 8) (k : Fin 32) (label : Nat)
  /-- `halt`. -/
  | halt
  deriving DecidableEq, Repr

end Sys2Proof
end

