-- ==== Sys2Proof/WellFormed.lean ====
section
/-! DEFINITION. Which terms of the syntax are legal: command words (30_encoding.md R81, R82, R84), commands, and host
programs (R87). -/

namespace Sys2Proof

/-- Bits 31:4 of a command word are zero (R81). -/
def Cmd32.mbzOk (c : Cmd32) : Bool := c.mbz == 0

/-- The opcode is one of the seven the opcode map assigns (R82); 0x6 to 0xE are reserved. -/
def Cmd32.opOk (c : Cmd32) : Bool := c.op ≤ 0x5 || c.op == 0xF

/-- A legal command word (R84). -/
def Cmd32.wf (c : Cmd32) : Bool := c.mbzOk && c.opOk

/-- A command carries no operand, so there is nothing in it to be ill-formed (R83). -/
def Instr.wf : Instr → Bool
  | .nop => true
  | .keysched => true
  | .saltmix => true
  | .encrypt => true
  | .encode => true
  | .hash => true
  | .clear => true

/-- A branch of the host assembly names a statement of its program of `n` statements (R87). -/
def HostStmt.wf (n : Nat) : HostStmt → Bool
  | .wr _ _ => true
  | .rd _ _ => true
  | .bit1 _ _ label => label < n
  | .bit0 _ _ label => label < n
  | .halt => true

/-- Every branch of the program names one of its statements. -/
def HostStmt.wfProgram (p : List HostStmt) : Bool := p.all (HostStmt.wf p.length)

end Sys2Proof
end

