-- ==== Sys2Proof/Decode.lean ====
section
/-! DEFINITION. The command decoder and encoder (30_encoding.md R80 to R86) and the register map's decoder and encoder
(10_state.md R23). Both decoders are total and reject by name. -/

namespace Sys2Proof

/-- Why a word is no command. -/
inductive DecodeError where
  /-- Bits 31:4 are not all zero (R84). -/
  | reservedBits
  /-- Bits 31:4 are zero and OP is 0x6 to 0xE (R84). -/
  | reservedOp
  deriving DecidableEq, Repr

/-- What the decoder answers for a word. -/
inductive Decoded where
  | command (i : Instr)
  | rejected (e : DecodeError)
  deriving DecidableEq, Repr

/-- What the decoder answers for bytes: the first word's answer and the bytes after it. -/
inductive DecodedBytes where
  | word (d : Decoded) (rest : List Byte)
  /-- Fewer than four bytes: every command is exactly one 32-bit word (R85). -/
  | truncated
  deriving DecidableEq, Repr

/-- A word's fields (R81). -/
def Cmd32.ofWord (w : Word) : Cmd32 := ⟨w.extractLsb' 4 28, w.extractLsb' 0 4⟩

/-- The word that has the given fields (R81). -/
def Cmd32.word (c : Cmd32) : Word := c.mbz ++ c.op

/-- The opcode map (R82), none for a reserved opcode. -/
def Instr.ofOp (op : BitVec 4) : Option Instr :=
  match op.toNat with
  | 0x0 => some .nop
  | 0x1 => some .keysched
  | 0x2 => some .saltmix
  | 0x3 => some .encrypt
  | 0x4 => some .encode
  | 0x5 => some .hash
  | 0xF => some .clear
  | _ => none

/-- The reserved bits are checked before the opcode (R80, R86). -/
def Cmd32.decode (c : Cmd32) : Decoded :=
  if c.mbz ≠ 0 then .rejected .reservedBits
  else
    match Instr.ofOp c.op with
    | some i => .command i
    | none => .rejected .reservedOp

/-- The command a CMD word selects (R80 less its BUSY line, which is the machine's). -/
def decodeWord (w : Word) : Decoded := (Cmd32.ofWord w).decode

/-- A word of four bytes, byte 0 in bits 7:0 (20_memory.md R67). -/
def wordOfBytes (b0 b1 b2 b3 : Byte) : Word := b3 ++ b2 ++ b1 ++ b0

/-- Byte k of a word, `w[8k+7:8k]` (00_scope.md R11). -/
def byteOfWord (w : Word) (k : Nat) : Byte := w.extractLsb' (8 * k) 8

/-- The decoder on any bytes: the first word's command, and the bytes after it (R85). -/
def decode : List Byte → DecodedBytes
  | b0 :: b1 :: b2 :: b3 :: rest => .word (decodeWord (wordOfBytes b0 b1 b2 b3)) rest
  | _ => .truncated

/-- A command's opcode (R82). -/
def Instr.op : Instr → BitVec 4
  | .nop => 0x0
  | .keysched => 0x1
  | .saltmix => 0x2
  | .encrypt => 0x3
  | .encode => 0x4
  | .hash => 0x5
  | .clear => 0xF

/-- The word of a command (R82): the opcode under zero bits. -/
def encode (i : Instr) : Word := (Cmd32.mk 0 i.op).word

/-- The bytes of a command word, lowest address first (R67). -/
def encodeBytes (i : Instr) : List Byte :=
  [byteOfWord (encode i) 0, byteOfWord (encode i) 1, byteOfWord (encode i) 2, byteOfWord (encode i) 3]

/-- One row of the opcode table: the words `w` with `w &&& mask = bits` are the command (R82). -/
structure OpRow where
  instr : Instr
  mask  : Word
  bits  : Word
  deriving DecidableEq, Repr

/-- The opcode table as R82 lists it: match is the value and the mask is full. -/
def opRows : List OpRow :=
  [⟨.nop, 0xFFFFFFFF, 0x00000000⟩, ⟨.keysched, 0xFFFFFFFF, 0x00000001⟩, ⟨.saltmix, 0xFFFFFFFF, 0x00000002⟩,
   ⟨.encrypt, 0xFFFFFFFF, 0x00000003⟩, ⟨.encode, 0xFFFFFFFF, 0x00000004⟩, ⟨.hash, 0xFFFFFFFF, 0x00000005⟩,
   ⟨.clear, 0xFFFFFFFF, 0x0000000F⟩]

/-- The bytes of the `nbits`-bit number `w`, bits above `nbits` zero, as one command word is laid out. -/
def tableBytes (nbits w : Nat) : List Byte :=
  let v : Word := BitVec.ofNat 32 (w % 2 ^ nbits)
  [byteOfWord v 0, byteOfWord v 1, byteOfWord v 2, byteOfWord v 3]

/-- What the decoder reads from an instruction whose bits are `w`, numbered as the opcode table numbers them. No command
is longer than one 32-bit word (R85), so a longer row names none. -/
def decodeTableWord (nbits w : Nat) : Option Instr :=
  if 32 < nbits then none
  else
    match decode (tableBytes nbits w) with
    | .word (.command i) _ => some i
    | .word (.rejected _) _ => none
    | .truncated => none

/-- A register's offset in the window (10_state.md R23). -/
def Reg.offset : Reg → Nat
  | .cmd => 0x000
  | .status => 0x004
  | .irqEn => 0x008
  | .secretLen => 0x00C
  | .secret0 => 0x010
  | .secret1 => 0x014
  | .salt => 0x018
  | .saltEff => 0x01C
  | .eswap0 => 0x020
  | .eswap1 => 0x024
  | .out0 => 0x028
  | .out1 => 0x02C
  | .resultLen => 0x030
  | .errCause => 0x034
  | .errWord => 0x038
  | .reserved3C => 0x03C
  | .result0 => 0x040
  | .result1 => 0x044
  | .result2 => 0x048
  | .result3 => 0x04C
  | .reserved50 i => 0x050 + 4 * i.val
  | .ks i => 0x080 + 4 * i.val

/-- The register at word index `n` of the window, offset `4 * n` (R23). -/
def Reg.atIndex (n : Fin 64) : Reg :=
  match n.val with
  | 0 => .cmd
  | 1 => .status
  | 2 => .irqEn
  | 3 => .secretLen
  | 4 => .secret0
  | 5 => .secret1
  | 6 => .salt
  | 7 => .saltEff
  | 8 => .eswap0
  | 9 => .eswap1
  | 10 => .out0
  | 11 => .out1
  | 12 => .resultLen
  | 13 => .errCause
  | 14 => .errWord
  | 15 => .reserved3C
  | 16 => .result0
  | 17 => .result1
  | 18 => .result2
  | 19 => .result3
  | k => if k < 32 then .reserved50 (Fin.ofNat 12 (k - 20)) else .ks (Fin.ofNat 32 (k - 32))

end Sys2Proof
end

