-- ==== Sys2Proof/Config.lean ====
section
/-! DEFINITION. What an implementation fixes and the free values: constants with no body, so nothing can be proved of
their values. -/

namespace Sys2Proof.Config

/-- The 256-byte page of the host's address space that holds the engine's window (00_scope.md R10, decision D4: the base
is 256-byte aligned). OPEN parameter of the spec. DESIGN CHOICE, log entry 1. -/
opaque engineBlock : Nat

/-- `ENGINE_BASE` (R10, R60), 256-byte aligned by construction (D4). -/
def engineBase : Nat := 256 * engineBlock

/-- The n-th free value for the hidden registers the spec leaves unspecified (10_state.md R42, R43, R46;
70_reset_and_hazards.md R230; 93_implementation_defined.md U8). DESIGN CHOICE, log entry 5. -/
opaque freeWord : Nat → Word

end Sys2Proof.Config
end

