-- ==== Sys2Proof/Machine/State.lean ====
section
/-! DEFINITION. The machine's state (10_state.md), the bus events it takes (60_exceptions.md R214), the reasons a step can
stop, and the state after reset (R48). -/

namespace Sys2Proof.Machine

/-- Why the machine has no step. Each is an access the spec gives no step: "the host agent is stuck at that access"
(20_memory.md R63, R64). All are safe: the model stops where some bus might go on. -/
inductive Fault where
  /-- A host access of 1, 2 or 8 bytes (R63, U1). Raised by a host read or write. Safe. -/
  | accessWidth
  /-- A host access whose offset is not a multiple of 4 (R64, U2). Raised by a host read or write. Safe. -/
  | misaligned
  /-- A host access outside the 256-byte window (R64, U3). Raised by a host read or write. Safe. -/
  | outsideWindow
  /-- A host access while reset is asserted (70_reset_and_hazards.md R234, U4). Raised by that event. Safe. -/
  | accessDuringReset
  /-- A host program ran past its last statement without `halt` (30_encoding.md R87 gives no statement there). Raised by
  Machine/HostAsm.lean alone, never by `step`. Safe. -/
  | hostNoStatement
  deriving DecidableEq, Repr

/-- Why the model rejects an input. -/
inductive Refusal where
  /-- No meaning for the command yet. Raised by exec's arms alone. Safe. -/
  | notModelled (mnemonic : String)
  /-- A permute-exchange or half-permute distance outside the operand range (41_bitperm.md R120, R122; U14: "refuse").
  Raised by the checked forms of Machine/BitPerm.lean alone, never by `step`. Safe. -/
  | shiftDistance
  deriving DecidableEq, Repr

/-- One event of the interleaving (60_exceptions.md R214), as the environment offers it. An access gives the displacement
of its address from `ENGINE_BASE` (00_scope.md R16: `addr = ENGINE_BASE + off`) and its width in bytes. -/
inductive Event where
  /-- `MemRead(ENGINE_BASE + off, n)` (20_memory.md R61). -/
  | read (off : Int) (n : Nat)
  /-- `MemWrite(ENGINE_BASE + off, n, v)` (R62). -/
  | write (off : Int) (n : Nat) (v : Word)
  /-- The sequencer's turn: the commit of the pending command (R66), before the host's next access. -/
  | commit
  /-- Reset is asserted (70_reset_and_hazards.md R230). -/
  | reset
  /-- The host accesses the window while reset is asserted (R234). -/
  | accessInReset
  deriving DecidableEq, Repr

/-- The inputs of a command as acceptance copies them (20_memory.md R65). -/
structure Snapshot where
  secret0   : Word
  secret1   : Word
  secretLen : BitVec 8
  salt      : BitVec 18
  saltEff   : BitVec 17
  eswap0    : Word
  eswap1    : Word
  out0      : Word
  out1      : Word
  ks        : Vector Word 32
  deriving DecidableEq, Repr

/-- PENDING when it is not None: `Some(op, snap)` (10_state.md R41). -/
structure Pending where
  op   : Instr
  snap : Snapshot
  deriving DecidableEq, Repr

/-- The sequencer's position inside a command (10_state.md R46, 44_feistel.md R173). Not host-visible. -/
structure SeqPos where
  /-- Key round k. -/
  keyRound : Fin 16
  /-- Outer iteration j. -/
  iter     : Fin 25
  /-- Round pair p. -/
  pair     : Fin 8
  /-- Which round of the pair. -/
  half     : Fin 2
  /-- Encoder group g. -/
  group    : Fin 11
  deriving DecidableEq, Repr

/-- The whole machine. STATUS.BUSY is not a field: it is 1 exactly when `pending` is not none (R41). Bits a register does
not use read 0 (R23) and are not stored. -/
structure State where
  /-- STATUS.DONE (R25). -/
  done      : Bool
  /-- STATUS.EMPTY (R25). -/
  empty     : Bool
  /-- STATUS.ERR (R25). -/
  err       : Bool
  /-- IRQ_EN.DONE_IE (R26). -/
  doneIe    : Bool
  /-- IRQ_EN.ERR_IE (R26). -/
  errIe     : Bool
  /-- SECRET_LEN.LEN (R27). -/
  secretLen : BitVec 8
  /-- SECRET0, SECRET1 (R28). -/
  secret0   : Word
  secret1   : Word
  /-- SALT: CH0 7:0, CH1 15:8, LEN 17:16 (R29). -/
  salt      : BitVec 18
  /-- SALT_EFF: ECH0 7:0, ECH1 15:8, VALID 16 (R30). -/
  saltEff   : BitVec 17
  /-- ESWAP0, ESWAP1 (R31). -/
  eswap0    : Word
  eswap1    : Word
  /-- OUT0, OUT1 (R32). -/
  out0      : Word
  out1      : Word
  /-- RESULT_LEN (R33). -/
  resultLen : BitVec 8
  /-- ERR_CAUSE.CODE and ERR_WORD (R49). -/
  errCause  : BitVec 2
  errWord   : Word
  /-- RESULT0 to RESULT3; RESULT3 is one byte wide (R34). -/
  result0   : Word
  result1   : Word
  result2   : Word
  result3   : Byte
  /-- KS[0..31] (R35). -/
  ks        : Vector Word 32
  /-- PENDING (R41). -/
  pending   : Option Pending
  /-- The key halves c and d (R42). -/
  c         : Word
  d         : Word
  /-- The cipher halves left and right (R43). -/
  left      : Word
  right     : Word
  /-- The sequencer's position (R46). -/
  pos       : SeqPos
  /-- The model's own: events still to come, oldest first (60_exceptions.md R214, 20_memory.md R74; log entry 2). -/
  inputs    : List Event
  /-- The model's own: what the last host read returned (20_memory.md R61; log entry 9). -/
  readData  : Option Word
  /-- The model's own: the next free value (log entry 5). -/
  freeCount : Nat
  deriving DecidableEq, Repr

/-- Right after reset: every host-visible register 0 and PENDING None (10_state.md R48, 70_reset_and_hazards.md R230). The
hidden registers and the position, which the spec leaves unspecified, are 0: DESIGN CHOICE, log entry 4. -/
def State.reset : State where
  done := false
  empty := false
  err := false
  doneIe := false
  errIe := false
  secretLen := 0
  secret0 := 0
  secret1 := 0
  salt := 0
  saltEff := 0
  eswap0 := 0
  eswap1 := 0
  out0 := 0
  out1 := 0
  resultLen := 0
  errCause := 0
  errWord := 0
  result0 := 0
  result1 := 0
  result2 := 0
  result3 := 0
  ks := Vector.replicate 32 0
  pending := none
  c := 0
  d := 0
  left := 0
  right := 0
  pos := ⟨0, 0, 0, 0, 0⟩
  inputs := []
  readData := none
  freeCount := 0

end Sys2Proof.Machine
end

