-- ==== Sys2Proof/Machine/Flags.lean ====
section
/-! DEFINITION. The status bits, their register views and the interrupt output (10_state.md R25, R26, R36, R40;
60_exceptions.md R202, R203, R210). The engine has no arithmetic flags (R36). -/

namespace Sys2Proof.Machine

/-- Why a CMD write was rejected (60_exceptions.md R203). -/
inductive ErrReason where
  | busy
  | reservedBits
  | reservedOp
  deriving DecidableEq, Repr

/-- ERR_CAUSE.CODE of a reason (R203); 0 is "no error recorded". -/
def ErrReason.code : ErrReason → BitVec 2
  | .busy => 1
  | .reservedBits => 2
  | .reservedOp => 3

/-- STATUS.BUSY: 1 exactly when PENDING is not None (10_state.md R25, R41). -/
def State.busy (s : State) : Bool := s.pending.isSome

/-- Bit `k` of a word set to `b`, every other bit 0. -/
def flagAt (b : Bool) (k : Nat) : Word := if b then 1 <<< k else 0

/-- STATUS as a host reads it: BUSY 0, DONE 1, EMPTY 2, ERR 3, bits 31:4 zero (R25). -/
def State.statusWord (s : State) : Word :=
  flagAt s.busy 0 ||| flagAt s.done 1 ||| flagAt s.empty 2 ||| flagAt s.err 3

/-- IRQ_EN as a host reads it: DONE_IE 0, ERR_IE 1, bits 31:2 zero (R26). -/
def State.irqEnWord (s : State) : Word := flagAt s.doneIe 0 ||| flagAt s.errIe 1

/-- The interrupt output, a level with no state of its own (60_exceptions.md R210). -/
def State.irq (s : State) : Bool := (s.done && s.doneIe) || (s.err && s.errIe)

/-- The first-error capture part of a CommandError: nothing if ERR is already 1 (60_exceptions.md R202). -/
def State.captureError (s : State) (reason : ErrReason) (v : Word) : State :=
  if s.err then s else { s with errCause := reason.code, errWord := v }

/-- W1C of STATUS.DONE if the written bit is 1 (R25). -/
def State.clearDone (s : State) (written : Bool) : State := if written then { s with done := false } else s

/-- W1C of STATUS.ERR if the written bit is 1: it clears ERR_CAUSE and ERR_WORD with it (R25, R49). -/
def State.clearErr (s : State) (written : Bool) : State :=
  if written then { s with err := false, errCause := 0, errWord := 0 } else s

end Sys2Proof.Machine
end

