-- ==== Sys2Proof/Machine/Operands.lean ====
section
/-! DEFINITION. The operand forms of the datapath: rotations (00_scope.md R13), bytes and characters packed into registers
(20_memory.md R67, R68), and the named fields of SECRET, SALT and SALT_EFF (10_state.md R27 to R30). -/

namespace Sys2Proof.Machine

/-- `rotl32(x, n)` for 1 <= n <= 31 (R13). -/
def rotl32 (x : Word) (n : Nat) : Word := (x <<< n) ||| (x >>> (32 - n))

/-- `rotr32(x, n)` for 1 <= n <= 31 (R13). -/
def rotr32 (x : Word) (n : Nat) : Word := (x >>> n) ||| (x <<< (32 - n))

/-- `rotr28(x, n)` of a u28 value for n in 1, 2 (R13). -/
def rotr28 (x : Word) (n : Nat) : Word := ((x >>> n) ||| (x <<< (28 - n))) &&& 0x0FFFFFFF

/-- The 6-bit field of a word whose lowest bit is `lo`. -/
def sextetAt (w : Word) (lo : Nat) : Sextet := w.extractLsb' lo 6

/-- Secret byte k of SECRET0 and SECRET1 (R28). -/
def secretByte (secret0 secret1 : Word) (k : Fin 8) : Byte :=
  if k.val < 4 then byteOfWord secret0 k.val else byteOfWord secret1 (k.val - 4)

/-- The number of secret bytes the engine uses, `min(LEN, 8)` (R27). -/
def secretCount (len : BitVec 8) : Nat := min len.toNat 8

/-- `kb[k]`: the secret byte shifted left by one within 8 bits, or zero from the secret's length on
(42_key_scheduler.md R130). -/
def keyByte (secret0 secret1 : Word) (len : BitVec 8) (k : Fin 8) : Byte :=
  if k.val < secretCount len then secretByte secret0 secret1 k <<< 1 else 0

/-- SALT.CH0 (R29). -/
def saltCh0 (salt : BitVec 18) : Byte := salt.extractLsb' 0 8

/-- SALT.CH1 (R29). -/
def saltCh1 (salt : BitVec 18) : Byte := salt.extractLsb' 8 8

/-- SALT.LEN (R29). -/
def saltLen (salt : BitVec 18) : BitVec 2 := salt.extractLsb' 16 2

/-- SALT_EFF.ECH0 (R30). -/
def effCh0 (eff : BitVec 17) : Byte := eff.extractLsb' 0 8

/-- SALT_EFF.ECH1 (R30). -/
def effCh1 (eff : BitVec 17) : Byte := eff.extractLsb' 8 8

/-- SALT_EFF.VALID (R30). -/
def effValid (eff : BitVec 17) : Bool := eff.getLsbD 16

/-- The inputs an acceptance copies, every one in the same step (20_memory.md R65). -/
def State.snapshot (s : State) : Snapshot :=
  ⟨s.secret0, s.secret1, s.secretLen, s.salt, s.saltEff, s.eswap0, s.eswap1, s.out0, s.out1, s.ks⟩

/-- The operands of the command the engine runs: the snapshot PENDING holds (30_encoding.md R83, 20_memory.md R65). With
nothing pending, what a snapshot taken now would hold (DESIGN CHOICE, log entry 7). -/
def State.operands (s : State) : Snapshot :=
  match s.pending with
  | some p => p.snap
  | none => s.snapshot

end Sys2Proof.Machine
end

