-- ==== Sys2Proof/Machine/Ops.lean ====
section
/-! DEFINITION. The shared operations: the host's register accesses (20_memory.md R61 to R64), acceptance and CommandError
(30_encoding.md R80, 60_exceptions.md R202), the commit (20_memory.md R66) and reset (70_reset_and_hazards.md R230). -/

namespace Sys2Proof.Machine

/-- What a step answers. -/
abbrev StepResult := Host.Outcome State Fault Refusal

/-- The hidden registers and the sequencer's position at a step boundary are unspecified (10_state.md R42, R43, R46; U8):
fresh free values (log entry 5). -/
def State.hideWork (s : State) : State :=
  { s with
    c := Config.freeWord s.freeCount
    d := Config.freeWord (s.freeCount + 1)
    left := Config.freeWord (s.freeCount + 2)
    right := Config.freeWord (s.freeCount + 3)
    pos :=
      ⟨Fin.ofNat 16 (Config.freeWord (s.freeCount + 4)).toNat, Fin.ofNat 25 (Config.freeWord (s.freeCount + 5)).toNat,
       Fin.ofNat 8 (Config.freeWord (s.freeCount + 6)).toNat, Fin.ofNat 2 (Config.freeWord (s.freeCount + 7)).toNat,
       Fin.ofNat 11 (Config.freeWord (s.freeCount + 8)).toNat⟩
    freeCount := s.freeCount + 9 }

/-- A command in flight moves on, unseen, between any two host steps (R46, R242). -/
def State.workInFlight (s : State) : State := if s.busy then s.hideWork else s

/-! ### The commit (20_memory.md R66) -/

/-- The end of every commit: `PENDING <- None` (so BUSY = 0) and `STATUS.DONE <- 1` (R66). -/
def State.commit (s : State) : State := { s with pending := none, done := true }.hideWork

/-- `KS[0..31] <- KS'`. -/
def State.withKs (s : State) (ks : Vector Word 32) : State := { s with ks := ks }

/-- `ESWAP0 <- e0 ; ESWAP1 <- e1 ; SALT_EFF <- eff`. -/
def State.withMasks (s : State) (e0 e1 : Word) (eff : BitVec 17) : State :=
  { s with eswap0 := e0, eswap1 := e1, saltEff := eff }

/-- `OUT0 <- o0 ; OUT1 <- o1`. -/
def State.withOut (s : State) (o0 o1 : Word) : State := { s with out0 := o0, out1 := o1 }

/-- What ENCODE computes: RESULT0 to RESULT3, RESULT_LEN and EMPTY (45_encoder.md R180, R181). -/
structure Encoded where
  result0 : Word
  result1 : Word
  result2 : Word
  result3 : Byte
  len     : BitVec 8
  empty   : Bool
  deriving DecidableEq, Repr

/-- `RESULT0..3`, `RESULT_LEN` and `STATUS.EMPTY` from what ENCODE computes. -/
def State.withResult (s : State) (e : Encoded) : State :=
  { s with result0 := e.result0, result1 := e.result1, result2 := e.result2, result3 := e.result3, resultLen := e.len,
           empty := e.empty }

/-! ### CommandError, the engine's only exception, and its return (60_exceptions.md R202, R217) -/

/-- `raise CommandError(reason)` for the CMD write of v: the capture on a first error, then ERR, and nothing else
(R202). -/
def State.commandError (s : State) (reason : ErrReason) (v : Word) : State := { s.captureError reason v with err := true }

/-- A host write of v to STATUS: W1C of DONE (bit 1) and ERR (bit 3), every other bit ignored (10_state.md R25). It is also
the counterpart of a return from CommandError (R217). -/
def State.writeStatus (s : State) (v : Word) : State := (s.clearDone (v.getLsbD 1)).clearErr (v.getLsbD 3)

/-! ### Acceptance (30_encoding.md R80) -/

/-- An accepted command: the snapshot, `DONE <- 0` and `PENDING <- Some(op, snap)`, in one step (R80, R65). -/
def State.accept (s : State) (i : Instr) : State :=
  { s with pending := some ⟨i, s.snapshot⟩, done := false }.hideWork

/-- `Decode(v)`, the effect of a CMD write: BUSY, then RESERVED_BITS, then RESERVED_OP, else accepted (R80, R86). -/
def State.writeCmd (s : State) (v : Word) : State :=
  if s.busy then s.commandError .busy v
  else
    match decodeWord v with
    | .command i => s.accept i
    | .rejected .reservedBits => s.commandError .reservedBits v
    | .rejected .reservedOp => s.commandError .reservedOp v

/-! ### Host accesses (20_memory.md R61 to R64) -/

/-- The value a host reads from a register (R61, 10_state.md R23): CMD and reserved offsets read 0, and so do the bits a
register does not use. -/
def State.readReg (s : State) : Reg → Word
  | .cmd => 0
  | .status => s.statusWord
  | .irqEn => s.irqEnWord
  | .secretLen => s.secretLen.setWidth 32
  | .secret0 => s.secret0
  | .secret1 => s.secret1
  | .salt => s.salt.setWidth 32
  | .saltEff => s.saltEff.setWidth 32
  | .eswap0 => s.eswap0
  | .eswap1 => s.eswap1
  | .out0 => s.out0
  | .out1 => s.out1
  | .resultLen => s.resultLen.setWidth 32
  | .errCause => s.errCause.setWidth 32
  | .errWord => s.errWord
  | .reserved3C => 0
  | .result0 => s.result0
  | .result1 => s.result1
  | .result2 => s.result2
  | .result3 => s.result3.setWidth 32
  | .reserved50 _ => 0
  | .ks i => s.ks[i]

/-- `IRQ_EN <- v`: DONE_IE is bit 0 and ERR_IE is bit 1 (10_state.md R26). -/
def State.withIrqEn (s : State) (v : Word) : State := { s with doneIe := v.getLsbD 0, errIe := v.getLsbD 1 }

/-- `SECRET_LEN <- v[7:0]` (R27). -/
def State.withSecretLen (s : State) (v : Word) : State := { s with secretLen := v.setWidth 8 }

/-- `SECRET0 <- v` (R28). -/
def State.withSecret0 (s : State) (v : Word) : State := { s with secret0 := v }

/-- `SECRET1 <- v` (R28). -/
def State.withSecret1 (s : State) (v : Word) : State := { s with secret1 := v }

/-- `SALT <- v[17:0]` (R29). -/
def State.withSalt (s : State) (v : Word) : State := { s with salt := v.setWidth 18 }

/-- The effect of a host write of v to a register (R62): CMD decodes, STATUS is W1C, an RW register takes its bits of v, and
RO registers and reserved offsets ignore the write. -/
def State.writeReg (s : State) (r : Reg) (v : Word) : State :=
  match r with
  | .cmd => s.writeCmd v
  | .status => s.writeStatus v
  | .irqEn => s.withIrqEn v
  | .secretLen => s.withSecretLen v
  | .secret0 => s.withSecret0 v
  | .secret1 => s.withSecret1 v
  | .salt => s.withSalt v
  | .saltEff => s
  | .eswap0 => s
  | .eswap1 => s
  | .out0 => s
  | .out1 => s
  | .resultLen => s
  | .errCause => s
  | .errWord => s
  | .reserved3C => s
  | .result0 => s
  | .result1 => s
  | .result2 => s
  | .result3 => s
  | .reserved50 _ => s
  | .ks _ => s

/-- What an access addresses. -/
inductive Target where
  | reg (r : Reg)
  | stuck (f : Fault)
  deriving DecidableEq, Repr

/-- The register an access of n bytes at `ENGINE_BASE + off` addresses: defined only for n = 4, off a multiple of 4 and
0 <= off < 0x100 (R61 to R64). Which of several reasons names a stuck access is DESIGN CHOICE, log entry 3. -/
def accessTarget (off : Int) (n : Nat) : Target :=
  if n ≠ 4 then .stuck .accessWidth
  else if off < 0 ∨ 0x100 ≤ off then .stuck .outsideWindow
  else if off % 4 ≠ 0 then .stuck .misaligned
  else .reg (Reg.atIndex (Fin.ofNat 64 (off.toNat / 4)))

/-- The host holds the value its read returned. -/
def State.latch (s : State) (v : Word) : State := { s with readData := some v }

/-- The events still to come. -/
def State.withInputs (s : State) (events : List Event) : State := { s with inputs := events }

/-- `MemRead(ENGINE_BASE + off, n)`: the value goes to the host, and no register, flag or PENDING changes (R61). -/
def State.hostRead (s : State) (off : Int) (n : Nat) : StepResult :=
  match accessTarget off n with
  | .reg r => .next (s.workInFlight.latch (s.readReg r))
  | .stuck f => .fault f

/-- `MemWrite(ENGINE_BASE + off, n, v)` (R62). -/
def State.hostWrite (s : State) (off : Int) (n : Nat) (v : Word) : StepResult :=
  match accessTarget off n with
  | .reg r => .next (s.workInFlight.writeReg r v)
  | .stuck f => .fault f

/-- The displacement from `ENGINE_BASE` of an absolute host address (00_scope.md R16). -/
def busOffset (addr : Nat) : Int := (addr : Int) - (Config.engineBase : Int)

/-- `MemRead(addr, n)` at an absolute host address (R16). -/
def State.memRead (s : State) (addr n : Nat) : StepResult := s.hostRead (busOffset addr) n

/-- `MemWrite(addr, n, v)` at an absolute host address (R16). -/
def State.memWrite (s : State) (addr n : Nat) (v : Word) : StepResult := s.hostWrite (busOffset addr) n v

/-! ### Reset (70_reset_and_hazards.md R230) -/

/-- The reset step: every host-visible register to its reset value, PENDING None, the hidden registers unspecified (R230).
The events still to come and what the host has read are the environment's, not the engine's (log entry 13). -/
def State.resetStep (s : State) : State :=
  { State.reset with inputs := s.inputs, readData := s.readData, freeCount := s.freeCount }.hideWork

end Sys2Proof.Machine
end

