-- ==== Sys2Proof/Machine/Encoder.lean ====
section
/-! DEFINITION. The output encoder and ENCODE (45_encoder.md R180 to R182). -/

namespace Sys2Proof.Machine

/-- `ob[0..8]`: OUT0 and OUT1 in little-endian bytes, then a zero byte (R181, 10_state.md R45). -/
def outBytes (out0 out1 : Word) : Vector Byte 9 :=
  #v[byteOfWord out0 0, byteOfWord out0 1, byteOfWord out0 2, byteOfWord out0 3,
     byteOfWord out1 0, byteOfWord out1 1, byteOfWord out1 2, byteOfWord out1 3, 0x00]

/-- `B(n)` as a 6-bit value: bit n of the stream, the most significant bit of ob[0] first (R181). -/
def streamBit (ob : Vector Byte 9) (n : Fin 72) : Sextet :=
  if (ob[n.val / 8]'(by omega)).getLsbD (7 - n.val % 8) then 1 else 0

/-- `gv[g]`: six bits of the stream, the first in bit 5 (R181). -/
def groupValue (ob : Vector Byte 9) (g : Fin 11) : Sextet :=
  (streamBit ob ⟨6 * g.val, by omega⟩ <<< 5) ||| (streamBit ob ⟨6 * g.val + 1, by omega⟩ <<< 4)
    ||| (streamBit ob ⟨6 * g.val + 2, by omega⟩ <<< 3) ||| (streamBit ob ⟨6 * g.val + 3, by omega⟩ <<< 2)
    ||| (streamBit ob ⟨6 * g.val + 4, by omega⟩ <<< 1) ||| streamBit ob ⟨6 * g.val + 5, by omega⟩

/-- `COV_2CHAR[gv[g]]`: the character of group g (R181). -/
def groupChar (ob : Vector Byte 9) (g : Fin 11) : Byte := cov2char.lookup (groupValue ob g)

/-- The empty result (R180). -/
def emptyResult : Encoded := ⟨0, 0, 0, 0, 0, true⟩

/-- The 13-character result: the effective salt's two bytes verbatim, then the eleven group characters, four to a RESULT word
in little-endian order (R181). -/
def charResult (eff : BitVec 17) (ob : Vector Byte 9) : Encoded :=
  ⟨wordOfBytes (effCh0 eff) (effCh1 eff) (groupChar ob 0) (groupChar ob 1),
   wordOfBytes (groupChar ob 2) (groupChar ob 3) (groupChar ob 4) (groupChar ob 5),
   wordOfBytes (groupChar ob 6) (groupChar ob 7) (groupChar ob 8) (groupChar ob 9),
   groupChar ob 10, 13, false⟩

/-- `Encode(SALT_EFF, OUT0, OUT1)` (R180, R181). -/
def encodeResult (eff : BitVec 17) (out0 out1 : Word) : Encoded :=
  if effValid eff then charResult eff (outBytes out0 out1) else emptyResult

/-- ENCODE: RESULT0 to RESULT3, RESULT_LEN and EMPTY from the snapshot's SALT_EFF, OUT0 and OUT1 (R182). -/
def execEncode (s : State) : StepResult :=
  let snap := s.operands
  .next (s.withResult (encodeResult snap.saltEff snap.out0 snap.out1)).commit

end Sys2Proof.Machine
end

