-- ==== Sys2Proof/Machine/BitPerm.lean ====
section
/-! DEFINITION. The bit-permutation utilities (41_bitperm.md R120 to R124). Shifts are logical, and left shifts truncate to
32 bits (R124). -/

namespace Sys2Proof.Machine

/-- permute-exchange (PERM_OP): the distances the spec gives it are 0 to 31 (R120). -/
def permuteExchange (a b : Word) (shift : Fin 32) (mask : Word) : Word × Word :=
  let t := ((a >>> shift.val) ^^^ b) &&& mask
  (a ^^^ (t <<< shift.val), b ^^^ t)

/-- half-permute (HPERM_OP) at distance D = 16 - shift, 1 <= D <= 31 (R122). -/
def halfPermuteAt (a : Word) (dist : Nat) (mask : Word) : Word :=
  let t := ((a <<< dist) ^^^ a) &&& mask
  a ^^^ t ^^^ (t >>> dist)

/-- The one half-permute call of the spec has shift -2, distance 18 (R122). -/
def halfPermute (a mask : Word) : Word := halfPermuteAt a 18 mask

/-- permute-exchange on any shift: refused from 32 on (R120, U14). -/
def permuteExchangeChecked (a b : Word) (shift : Nat) (mask : Word) : Host.Outcome (Word × Word) Fault Refusal :=
  if h : shift < 32 then .next (permuteExchange a b ⟨shift, h⟩ mask) else .refused .shiftDistance

/-- half-permute on any shift: refused unless 1 <= 16 - shift <= 31 (R122, U14). -/
def halfPermuteChecked (a : Word) (shift : Int) (mask : Word) : Host.Outcome Word Fault Refusal :=
  if 1 ≤ 16 - shift ∧ 16 - shift ≤ 31 then .next (halfPermuteAt a (16 - shift).toNat mask) else .refused .shiftDistance

end Sys2Proof.Machine
end

