-- ==== Sys2Proof/Machine/Feistel.lean ====
section
/-! DEFINITION. The Feistel engine and ENCRYPT (44_feistel.md R160 to R171). -/

namespace Sys2Proof.Machine

/-- The cipher halves `left` and `right` (10_state.md R43). -/
structure Halves where
  l : Word
  r : Word
  deriving DecidableEq, Repr

/-- What the round function reads beside the halves: KS, ESWAP0 and ESWAP1 (R160). -/
structure CipherKey where
  ks     : Vector Word 32
  eswap0 : Word
  eswap1 : Word
  deriving DecidableEq, Repr

/-- The eight SPTRANS lookups of u and t, OR-ed: even tables read u, odd tables read t (R162). -/
def substitute (u t : Word) : Word :=
  sptrans[0].lookup (sextetAt u 0) ||| sptrans[2].lookup (sextetAt u 8) ||| sptrans[4].lookup (sextetAt u 16)
    ||| sptrans[6].lookup (sextetAt u 24)
    ||| sptrans[1].lookup (sextetAt t 0) ||| sptrans[3].lookup (sextetAt t 8) ||| sptrans[5].lookup (sextetAt t 16)
    ||| sptrans[7].lookup (sextetAt t 24)

/-- One masked half of the expansion: the selected difference is XOR-ed into both positions of each pair, then R and the
subkey word (R162, lines 2 to 5). -/
def expandHalf (r mask subkey : Word) : Word :=
  let x := (r ^^^ (r >>> 16)) &&& mask
  x ^^^ (x <<< 16) ^^^ r ^^^ subkey

/-- `rf(L, R, i)` with i = 2k, on the two subkey words of round k (R160, R162). -/
def roundFnOn (eswap0 eswap1 subkey0 subkey1 l r : Word) : Word :=
  l ^^^ substitute (expandHalf r eswap0 subkey0) (rotr32 (expandHalf r eswap1 subkey1) 4)

/-- `rf(L, R, 2k)` (R162): KS[2k] and KS[2k+1] are round k's subkey words. -/
def roundFn (key : CipherKey) (l r : Word) (k : Fin 16) : Word :=
  roundFnOn key.eswap0 key.eswap1 (key.ks[2 * k.val]'(by omega)) (key.ks[2 * k.val + 1]'(by omega)) l r

/-- Round pair p: `l <- rf(l, r, 4p)`, then `r <- rf(r, l, 4p + 2)` with the new l (R166). -/
def roundPair (key : CipherKey) (h : Halves) (p : Fin 8) : Halves :=
  let l := roundFn key h.l h.r ⟨2 * p.val, by omega⟩
  let r := roundFn key h.r l ⟨2 * p.val + 1, by omega⟩
  ⟨l, r⟩

/-- The exchange of the halves at the end of an outer iteration (R166). -/
def swapHalves (h : Halves) : Halves := ⟨h.r, h.l⟩

/-- One outer iteration: eight round pairs, then one exchange (R166). -/
def outerIteration (key : CipherKey) (h : Halves) : Halves :=
  swapHalves (([0, 1, 2, 3, 4, 5, 6, 7] : List (Fin 8)).foldl (roundPair key) h)

/-- n outer iterations (R166). -/
def outerIterations (key : CipherKey) : Nat → Halves → Halves
  | 0, h => h
  | n + 1, h => outerIterations key n (outerIteration key h)

/-- The final exchange with its rotation right by 1 (R167). -/
def finalExchange (h : Halves) : Halves := ⟨rotr32 h.r 1, rotr32 h.l 1⟩

/-- `(r, l) <- permute-exchange(r, l, shift, mask)`. -/
def exchangeRL (h : Halves) (shift : Fin 32) (mask : Word) : Halves :=
  let (r, l) := permuteExchange h.r h.l shift mask
  ⟨l, r⟩

/-- `(l, r) <- permute-exchange(l, r, shift, mask)`. -/
def exchangeLR (h : Halves) (shift : Fin 32) (mask : Word) : Halves :=
  let (l, r) := permuteExchange h.l h.r shift mask
  ⟨l, r⟩

/-- The five calls of the output permutation, in order (R168). -/
def outputStep (h : Halves) (n : Fin 5) : Halves :=
  match n with
  | 0 => exchangeRL h 1 0x55555555
  | 1 => exchangeLR h 8 0x00FF00FF
  | 2 => exchangeRL h 2 0x33333333
  | 3 => exchangeLR h 16 0x0000FFFF
  | 4 => exchangeRL h 4 0x0F0F0F0F

/-- The output permutation (R168): OUT0' is l and OUT1' is r after it. -/
def outputPermutation (h : Halves) : Halves := ([0, 1, 2, 3, 4] : List (Fin 5)).foldl outputStep h

/-- `Encrypt(KS, ESWAP0, ESWAP1)`: the zero block, 25 outer iterations, the final exchange and the output permutation
(R165 to R169). OUT0' is `l` and OUT1' is `r`. -/
def encryptBlock (key : CipherKey) : Halves := outputPermutation (finalExchange (outerIterations key 25 ⟨0, 0⟩))

/-- ENCRYPT: OUT0 and OUT1 from the snapshot's KS and masks (R171). -/
def execEncrypt (s : State) : StepResult :=
  let snap := s.operands
  let out := encryptBlock ⟨snap.ks, snap.eswap0, snap.eswap1⟩
  .next (s.withOut out.l out.r).commit

end Sys2Proof.Machine
end

