-- ==== Sys2Proof/Machine/KeyScheduler.lean ====
section
/-! DEFINITION. The key scheduler and KEYSCHED (42_key_scheduler.md R130 to R140). -/

namespace Sys2Proof.Machine

/-- The key halves `c` and `d` (10_state.md R42). -/
structure KeyHalves where
  c : Word
  d : Word
  deriving DecidableEq, Repr

/-- The key bytes packed little-endian: bytes 0 to 3 into `c`, bytes 4 to 7 into `d` (R131, first two lines). -/
def packKey (secret0 secret1 : Word) (len : BitVec 8) : KeyHalves :=
  let kb := keyByte secret0 secret1 len
  ⟨wordOfBytes (kb 0) (kb 1) (kb 2) (kb 3), wordOfBytes (kb 4) (kb 5) (kb 6) (kb 7)⟩

/-- The initial key permutation (R131, from the first permute-exchange on). -/
def permuteKey (h : KeyHalves) : KeyHalves :=
  let (d, c) := permuteExchange h.d h.c 4 0x0F0F0F0F
  let c := halfPermute c 0xCCCC0000
  let d := halfPermute d 0xCCCC0000
  let (d, c) := permuteExchange d c 1 0x55555555
  let (c, d) := permuteExchange c d 8 0x00FF00FF
  let (d, c) := permuteExchange d c 1 0x55555555
  ⟨c &&& 0x0FFFFFFF,
   ((d &&& 0x000000FF) <<< 16) ||| (d &&& 0x0000FF00) ||| ((d &&& 0x00FF0000) >>> 16) ||| ((c &&& 0xF0000000) >>> 4)⟩

/-- The rotation of one key round: by 2 where the SHIFTS2 flag is 1, else by 1 (R133). -/
def rotateKey (flag : BitVec 1) (h : KeyHalves) : KeyHalves :=
  let sh := if flag = 1 then 2 else 1
  ⟨rotr28 h.c sh, rotr28 h.d sh⟩

/-- `s`: the four c-tables' lookups (R134). -/
def compressC (c : Word) : Word :=
  skb[0].lookup (sextetAt c 0)
    ||| skb[1].lookup (c.extractLsb' 9 4 ++ c.extractLsb' 6 2)
    ||| skb[2].lookup (c.extractLsb' 18 2 ++ c.extractLsb' 13 4)
    ||| skb[3].lookup (c.extractLsb' 25 3 ++ c.extractLsb' 22 2 ++ c.extractLsb' 20 1)

/-- `t`: the four d-tables' lookups (R134). -/
def compressD (d : Word) : Word :=
  skb[4].lookup (sextetAt d 0)
    ||| skb[5].lookup (d.extractLsb' 10 4 ++ d.extractLsb' 7 2)
    ||| skb[6].lookup (sextetAt d 15)
    ||| skb[7].lookup (d.extractLsb' 26 2 ++ d.extractLsb' 21 4)

/-- `KS'[2k]` (R135). -/
def subkeyEven (s t : Word) : Word := (t <<< 16) ||| (s &&& 0x0000FFFF)

/-- `KS'[2k+1]` (R135). -/
def subkeyOdd (s t : Word) : Word := rotl32 ((s >>> 16) ||| (t &&& 0xFFFF0000)) 4

/-- The key rounds for the given SHIFTS2 flags, in order: each rotates, compresses and appends two subkeys (R133 to R136). -/
def keyRounds : List (BitVec 1) → KeyHalves → List Word
  | [], _ => []
  | flag :: flags, h =>
    let h' := rotateKey flag h
    let s := compressC h'.c
    let t := compressD h'.d
    subkeyEven s t :: subkeyOdd s t :: keyRounds flags h'

/-- Each key round appends two words. -/
theorem keyRounds_length (flags : List (BitVec 1)) (h : KeyHalves) :
    (keyRounds flags h).length = 2 * flags.length := by
  induction flags generalizing h with
  | nil => rfl
  | cons f fs ih => simp [keyRounds, ih]; omega

/-- `KeySched(secret0, secret1, len)`: packing, the initial permutation, and sixteen key rounds (R136). -/
def keySched (secret0 secret1 : Word) (len : BitVec 8) : Vector Word 32 :=
  ⟨⟨keyRounds shifts2.toList (permuteKey (packKey secret0 secret1 len))⟩, keyRounds_length _ _⟩

/-- KEYSCHED: KS from the snapshot's secret (R140). -/
def execKeysched (s : State) : StepResult :=
  let snap := s.operands
  .next (s.withKs (keySched snap.secret0 snap.secret1 snap.secretLen)).commit

end Sys2Proof.Machine
end

