-- ==== Sys2Proof/Machine/SaltMixer.lean ====
section
/-! DEFINITION. The salt mixer and SALTMIX (43_salt_mixer.md R150 to R153). -/

namespace Sys2Proof.Machine

/-- SALT_EFF' from SALT: zero for an empty salt, the one character duplicated, or the first two characters, under VALID
(R152). -/
def effectiveSalt (salt : BitVec 18) : BitVec 17 :=
  match (saltLen salt).toNat with
  | 0 => 0
  | 1 => (1 : BitVec 1) ++ saltCh0 salt ++ saltCh0 salt
  | _ => (1 : BitVec 1) ++ saltCh1 salt ++ saltCh0 salt

/-- ESWAP0' of an effective salt: the first character's value in bits 5:0 (R151), 0 for the empty salt (R153). -/
def swapMask0 (eff : BitVec 17) : Word := if effValid eff then (conSalt (effCh0 eff)).setWidth 32 else 0

/-- ESWAP1' of an effective salt: the second character's value in bits 9:4 (R151), 0 for the empty salt (R153). -/
def swapMask1 (eff : BitVec 17) : Word := if effValid eff then (conSalt (effCh1 eff)).setWidth 32 <<< 4 else 0

/-- SALTMIX: ESWAP0, ESWAP1 and SALT_EFF from the snapshot's SALT (R153). -/
def execSaltmix (s : State) : StepResult :=
  let eff := effectiveSalt s.operands.salt
  .next (s.withMasks (swapMask0 eff) (swapMask1 eff) eff).commit

end Sys2Proof.Machine
end

