-- ==== Sys2Proof/Machine/Control.lean ====
section
/-! DEFINITION. The control commands NOP, HASH and CLEAR (46_control.md R190 to R192). -/

namespace Sys2Proof.Machine

/-- NOP: the commit and nothing else (R190). -/
def execNop (s : State) : StepResult := .next s.commit

/-- HASH: the masks and effective salt of the snapshot's SALT; for a non-empty salt the key schedule and the encryption of
the snapshot's secret, else KS and OUT as the snapshot holds them; then the encoding; one commit (R191). -/
def execHash (s : State) : StepResult :=
  let snap := s.operands
  let eff := effectiveSalt snap.salt
  let e0 := swapMask0 eff
  let e1 := swapMask1 eff
  let ks := if effValid eff then keySched snap.secret0 snap.secret1 snap.secretLen else snap.ks
  let out := if effValid eff then encryptBlock ⟨ks, e0, e1⟩ else ⟨snap.out0, snap.out1⟩
  .next
    ((((s.withMasks e0 e1 eff).withKs ks).withOut out.l out.r).withResult (encodeResult eff out.l out.r)).commit

/-- Every register CLEAR writes set to 0: all but IRQ_EN, STATUS.DONE and PENDING (R192). -/
def State.scrub (s : State) : State :=
  { s with
    secret0 := 0, secret1 := 0, secretLen := 0, salt := 0, saltEff := 0, eswap0 := 0, eswap1 := 0, out0 := 0, out1 := 0,
    result0 := 0, result1 := 0, result2 := 0, result3 := 0, resultLen := 0, ks := Vector.replicate 32 0,
    empty := false, err := false, errCause := 0, errWord := 0 }

/-- CLEAR: the scrub, then the commit; IRQ_EN keeps its value (R192). -/
def execClear (s : State) : StepResult := .next s.scrub.commit

end Sys2Proof.Machine
end

