-- ==== Sys2Proof/Machine/Dispatch.lean ====
section
/-! DEFINITION. One arm per command: the compute and commit of the accepted command, over the snapshot PENDING holds
(30_encoding.md R82). -/

namespace Sys2Proof.Machine

def exec (i : Instr) (s : State) : Host.Outcome State Fault Refusal :=
  match i with
  | .nop => Sys2Proof.Machine.execNop s
  | .keysched => Sys2Proof.Machine.execKeysched s
  | .saltmix => Sys2Proof.Machine.execSaltmix s
  | .encrypt => Sys2Proof.Machine.execEncrypt s
  | .encode => Sys2Proof.Machine.execEncode s
  | .hash => Sys2Proof.Machine.execHash s
  | .clear => Sys2Proof.Machine.execClear s

end Sys2Proof.Machine
end

