-- ==== Sys2Proof/Machine/Step.lean ====
section
/-! DEFINITION. One step of the interleaving (60_exceptions.md R214): a host read, a host write, the commit of the pending
command, or reset. -/

namespace Sys2Proof.Machine

/-- The sequencer's turn: the commit of the pending command, or nothing to do (20_memory.md R66, 70_reset_and_hazards.md
R242; log entry 2). -/
def sequencerTurn (s : State) : Host.Outcome State Fault Refusal :=
  match s.pending with
  | some p => exec p.op s
  | none => .next s

/-- The step an event stands for (R214). -/
def takeEvent (e : Event) (s : State) : Host.Outcome State Fault Refusal :=
  match e with
  | .read off n => s.hostRead off n
  | .write off n v => s.hostWrite off n v
  | .commit => sequencerTurn s
  | .reset => .next s.resetStep
  | .accessInReset => .fault .accessDuringReset

/-- The next event of the interleaving; when the host has none left, the sequencer moves (weak fairness of the commit,
R242). -/
def step (s : State) : Host.Outcome State Fault Refusal :=
  match s.inputs with
  | [] => sequencerTurn s
  | e :: rest => takeEvent e (s.withInputs rest)

/-- `s` with the command word `w` where the sequencer takes its next command: accepted in PENDING with the snapshot of its
inputs, as the CMD write of R80 leaves it, and no host event before the commit. A word that is no command never reaches
PENDING (R84): it is left as the CMD write the host makes next. Log entry 8. -/
def State.withFetchWord (s : State) (nbits w : Nat) : State :=
  match decodeTableWord nbits w with
  | some i => { s.withInputs [] with done := false, pending := some ⟨i, s.snapshot⟩ }
  | none => { s.withInputs [.write 0 4 (BitVec.ofNat 32 (w % 2 ^ nbits))] with pending := none }

end Sys2Proof.Machine
end

