-- ==== Sys2Proof/Machine/Fips46.lean ====
section
/-! DEFINITION. The FIPS 46 reference of 40_tables.md R109: its tables, the generation rules of SKB and SPTRANS (R110, R111),
the word layouts (R112), and DES with the salted expansion (44_feistel.md R172). No datapath rule reads any of this: it is
what the equivalence statements compare the datapath with. A bit string is a list of Booleans, FIPS bit 1 first. -/

namespace Sys2Proof.Machine

/-- IP. -/
def fipsIp : List Nat :=
  [58, 50, 42, 34, 26, 18, 10, 2,
   60, 52, 44, 36, 28, 20, 12, 4,
   62, 54, 46, 38, 30, 22, 14, 6,
   64, 56, 48, 40, 32, 24, 16, 8,
   57, 49, 41, 33, 25, 17, 9, 1,
   59, 51, 43, 35, 27, 19, 11, 3,
   61, 53, 45, 37, 29, 21, 13, 5,
   63, 55, 47, 39, 31, 23, 15, 7]

/-- FP, the inverse of IP. -/
def fipsFp : List Nat :=
  [40, 8, 48, 16, 56, 24, 64, 32,
   39, 7, 47, 15, 55, 23, 63, 31,
   38, 6, 46, 14, 54, 22, 62, 30,
   37, 5, 45, 13, 53, 21, 61, 29,
   36, 4, 44, 12, 52, 20, 60, 28,
   35, 3, 43, 11, 51, 19, 59, 27,
   34, 2, 42, 10, 50, 18, 58, 26,
   33, 1, 41, 9, 49, 17, 57, 25]

/-- E. -/
def fipsE : List Nat :=
  [32, 1, 2, 3, 4, 5,
   4, 5, 6, 7, 8, 9,
   8, 9, 10, 11, 12, 13,
   12, 13, 14, 15, 16, 17,
   16, 17, 18, 19, 20, 21,
   20, 21, 22, 23, 24, 25,
   24, 25, 26, 27, 28, 29,
   28, 29, 30, 31, 32, 1]

/-- P. -/
def fipsP : List Nat :=
  [16, 7, 20, 21,
   29, 12, 28, 17,
   1, 15, 23, 26,
   5, 18, 31, 10,
   2, 8, 24, 14,
   32, 27, 3, 9,
   19, 13, 30, 6,
   22, 11, 4, 25]

/-- PC1: C is the first 28 entries, D the last 28. -/
def fipsPc1 : List Nat :=
  [57, 49, 41, 33, 25, 17, 9,
   1, 58, 50, 42, 34, 26, 18,
   10, 2, 59, 51, 43, 35, 27,
   19, 11, 3, 60, 52, 44, 36,
   63, 55, 47, 39, 31, 23, 15,
   7, 62, 54, 46, 38, 30, 22,
   14, 6, 61, 53, 45, 37, 29,
   21, 13, 5, 28, 20, 12, 4]

/-- PC2, numbering C||D as 1..56. -/
def fipsPc2 : List Nat :=
  [14, 17, 11, 24, 1, 5,
   3, 28, 15, 6, 21, 10,
   23, 19, 12, 4, 26, 8,
   16, 7, 27, 20, 13, 2,
   41, 52, 31, 37, 47, 55,
   30, 40, 51, 45, 33, 48,
   44, 49, 39, 56, 34, 53,
   46, 42, 50, 36, 29, 32]

/-- S1. -/
def fipsS1 : List (List Nat) :=
  [[14, 4, 13, 1, 2, 15, 11, 8, 3, 10, 6, 12, 5, 9, 0, 7],
   [0, 15, 7, 4, 14, 2, 13, 1, 10, 6, 12, 11, 9, 5, 3, 8],
   [4, 1, 14, 8, 13, 6, 2, 11, 15, 12, 9, 7, 3, 10, 5, 0],
   [15, 12, 8, 2, 4, 9, 1, 7, 5, 11, 3, 14, 10, 0, 6, 13]]

/-- S2. -/
def fipsS2 : List (List Nat) :=
  [[15, 1, 8, 14, 6, 11, 3, 4, 9, 7, 2, 13, 12, 0, 5, 10],
   [3, 13, 4, 7, 15, 2, 8, 14, 12, 0, 1, 10, 6, 9, 11, 5],
   [0, 14, 7, 11, 10, 4, 13, 1, 5, 8, 12, 6, 9, 3, 2, 15],
   [13, 8, 10, 1, 3, 15, 4, 2, 11, 6, 7, 12, 0, 5, 14, 9]]

/-- S3. -/
def fipsS3 : List (List Nat) :=
  [[10, 0, 9, 14, 6, 3, 15, 5, 1, 13, 12, 7, 11, 4, 2, 8],
   [13, 7, 0, 9, 3, 4, 6, 10, 2, 8, 5, 14, 12, 11, 15, 1],
   [13, 6, 4, 9, 8, 15, 3, 0, 11, 1, 2, 12, 5, 10, 14, 7],
   [1, 10, 13, 0, 6, 9, 8, 7, 4, 15, 14, 3, 11, 5, 2, 12]]

/-- S4. -/
def fipsS4 : List (List Nat) :=
  [[7, 13, 14, 3, 0, 6, 9, 10, 1, 2, 8, 5, 11, 12, 4, 15],
   [13, 8, 11, 5, 6, 15, 0, 3, 4, 7, 2, 12, 1, 10, 14, 9],
   [10, 6, 9, 0, 12, 11, 7, 13, 15, 1, 3, 14, 5, 2, 8, 4],
   [3, 15, 0, 6, 10, 1, 13, 8, 9, 4, 5, 11, 12, 7, 2, 14]]

/-- S5. -/
def fipsS5 : List (List Nat) :=
  [[2, 12, 4, 1, 7, 10, 11, 6, 8, 5, 3, 15, 13, 0, 14, 9],
   [14, 11, 2, 12, 4, 7, 13, 1, 5, 0, 15, 10, 3, 9, 8, 6],
   [4, 2, 1, 11, 10, 13, 7, 8, 15, 9, 12, 5, 6, 3, 0, 14],
   [11, 8, 12, 7, 1, 14, 2, 13, 6, 15, 0, 9, 10, 4, 5, 3]]

/-- S6. -/
def fipsS6 : List (List Nat) :=
  [[12, 1, 10, 15, 9, 2, 6, 8, 0, 13, 3, 4, 14, 7, 5, 11],
   [10, 15, 4, 2, 7, 12, 9, 5, 6, 1, 13, 14, 0, 11, 3, 8],
   [9, 14, 15, 5, 2, 8, 12, 3, 7, 0, 4, 10, 1, 13, 11, 6],
   [4, 3, 2, 12, 9, 5, 15, 10, 11, 14, 1, 7, 6, 0, 8, 13]]

/-- S7. -/
def fipsS7 : List (List Nat) :=
  [[4, 11, 2, 14, 15, 0, 8, 13, 3, 12, 9, 7, 5, 10, 6, 1],
   [13, 0, 11, 7, 4, 9, 1, 10, 14, 3, 5, 12, 2, 15, 8, 6],
   [1, 4, 11, 13, 12, 3, 7, 14, 10, 15, 6, 8, 0, 5, 9, 2],
   [6, 11, 13, 8, 1, 4, 10, 7, 9, 5, 0, 15, 14, 2, 3, 12]]

/-- S8. -/
def fipsS8 : List (List Nat) :=
  [[13, 2, 8, 4, 6, 15, 11, 1, 10, 9, 3, 14, 5, 0, 12, 7],
   [1, 15, 13, 8, 10, 3, 7, 4, 12, 5, 6, 11, 0, 14, 9, 2],
   [7, 11, 4, 1, 9, 12, 14, 2, 0, 6, 10, 13, 15, 3, 5, 8],
   [2, 1, 14, 7, 4, 10, 8, 13, 15, 12, 9, 0, 3, 5, 6, 11]]

/-- The S-boxes S1 to S8. -/
def fipsS : Vector (List (List Nat)) 8 :=
  #v[fipsS1, fipsS2, fipsS3, fipsS4, fipsS5, fipsS6, fipsS7, fipsS8]

/-- The left-shift schedule, rounds 1 to 16. -/
def fipsShifts : List Nat := [1, 1, 2, 2, 2, 2, 2, 2, 1, 2, 2, 2, 2, 2, 2, 1]

/-- FIPS bit n (from 1) of a bit string. -/
def fipsBit (bits : List Bool) (n : Nat) : Bool := bits.getD (n - 1) false

/-- The selection of bits a FIPS table describes: output bit i is input bit `table[i]`. -/
def fipsSelect (table : List Nat) (bits : List Bool) : List Bool := table.map (fipsBit bits)

/-- The entry of S(q+1) for input bits b1..b6: row 2*b1 + b6, column 8*b2 + 4*b3 + 2*b4 + b5. -/
def fipsSEntry (q : Fin 8) (b1 b2 b3 b4 b5 b6 : Bool) : Nat :=
  ((fipsS[q]).getD (2 * b1.toNat + b6.toNat) []).getD (8 * b2.toNat + 4 * b3.toNat + 2 * b4.toNat + b5.toNat) 0

/-- The four output bits of an S-box, o1 the most significant. -/
def fipsSBits (y : Nat) : List Bool := [y.testBit 3, y.testBit 2, y.testBit 1, y.testBit 0]

/-! ### Generation of SKB and SPTRANS (R110, R111) -/

/-- The word bits that index bits 0 to 5 of SKB[k] read: CX[k] of half c for k < 4, DX[k-4] of half d (R110). -/
def skbFields : Vector (List Nat) 8 :=
  #v[[0, 1, 2, 3, 4, 5], [6, 7, 9, 10, 11, 12], [13, 14, 15, 16, 18, 19], [20, 22, 23, 25, 26, 27],
     [0, 1, 2, 3, 4, 5], [7, 8, 10, 11, 12, 13], [15, 16, 17, 18, 19, 20], [21, 22, 23, 24, 26, 27]]

/-- `base(q)`: where S-box q+1's group starts in its subkey word (R110). -/
def skbBase (q : Nat) : Nat := [0, 16, 8, 24].getD (q % 4) 0

/-- Where index bit j of SKB[k] lands: n is its C||D bit, m the 1-based position of n in PC2, and the word bit is
`base(q) + jj` with q = (m-1) div 6 and jj = (m-1) mod 6 (R110). -/
def skbTarget (k : Fin 8) (j : Nat) : Nat :=
  let x := (skbFields[k]).getD j 0
  let n := if k.val < 4 then x + 1 else 28 + x + 1
  let m0 := fipsPc2.idxOf n
  skbBase (m0 / 6) + m0 % 6

/-- SKB[k][x] by the generation rule (R110). -/
def skbGenerated (k : Fin 8) (x : Sextet) : Word :=
  (List.range 6).foldl (fun w j => if x.getLsbD j then w ||| (1 <<< skbTarget k j) else w) 0

/-- SPTRANS[q][x] by the generation rule (R111): the S-box output at FIPS bits 4q+1 to 4q+4, then P, FIPS bit i at word bit
`i mod 32`. -/
def sptransGenerated (q : Fin 8) (x : Sextet) : Word :=
  let y := fipsSEntry q (x.getLsbD 0) (x.getLsbD 1) (x.getLsbD 2) (x.getLsbD 3) (x.getLsbD 4) (x.getLsbD 5)
  let so := List.replicate (4 * q.val) false ++ fipsSBits y ++ List.replicate (28 - 4 * q.val) false
  (List.range 32).foldl (fun w n => if fipsBit so (fipsP.getD n 0) then w ||| (1 <<< ((n + 1) % 32)) else w) 0

/-! ### Word layouts (R112) -/

/-- A Feistel half in a word: bit p, for 1 <= p <= 31, is FIPS bit p of the half, and bit 0 is FIPS bit 32 (R112). -/
def feistelBits (w : Word) : List Bool := (List.range 32).map fun n => w.getLsbD ((n + 1) % 32)

/-- A key half in a word: bit i, 0 to 27, is FIPS bit i+1 of the half (R112). -/
def keyHalfBits (w : Word) : List Bool := (List.range 28).map fun n => w.getLsbD n

/-- The 48 FIPS subkey bits of a round, from its two subkey words: S1, S3, S5, S7 in KS[2k] at bits 5:0, 13:8, 21:16, 29:24,
and S2, S4, S6, S8 in `rotr32(KS[2k+1], 4)` at the same places (R112). -/
def subkeyBits (ks0 ks1 : Word) : List Bool :=
  let field (w : Word) (lo : Nat) : List Bool := (List.range 6).map fun j => w.getLsbD (lo + j)
  let t := rotr32 ks1 4
  field ks0 0 ++ field t 0 ++ field ks0 8 ++ field t 8 ++ field ks0 16 ++ field t 16 ++ field ks0 24 ++ field t 24

/-- The eight bits of a byte, most significant first. -/
def byteBits (b : Byte) : List Bool := (List.range 8).map fun n => b.getLsbD (7 - n)

/-- OUT0 and OUT1 as the 64-bit FIPS string: bytes in little-endian order, each most significant bit first (R172). -/
def outBits (out0 out1 : Word) : List Bool :=
  ((List.range 4).flatMap fun k => byteBits (byteOfWord out0 k)) ++ ((List.range 4).flatMap fun k => byteBits (byteOfWord out1 k))

/-! ### The FIPS 46 key schedule -/

/-- The 64-bit FIPS key of the secret: byte i is `kb[i]`, most significant bit first (42_key_scheduler.md R132). -/
def fipsKey (secret0 secret1 : Word) (len : BitVec 8) : List Bool :=
  (List.finRange 8).flatMap fun i => byteBits (keyByte secret0 secret1 len i)

/-- A left rotation of a bit string. -/
def fipsRotate (n : Nat) (bits : List Bool) : List Bool := bits.drop n ++ bits.take n

/-- The round subkeys for the given shifts, from C and D: rotate both left, then PC2 of C||D. -/
def fipsRoundKeys : List Nat → List Bool → List Bool → List (List Bool)
  | [], _, _ => []
  | n :: ns, c, d =>
    let c' := fipsRotate n c
    let d' := fipsRotate n d
    fipsSelect fipsPc2 (c' ++ d') :: fipsRoundKeys ns c' d'

/-- The sixteen round subkeys K1 to K16 of a key. -/
def fipsKeySchedule (key : List Bool) : List (List Bool) :=
  let cd := fipsSelect fipsPc1 key
  fipsRoundKeys fipsShifts (cd.take 28) (cd.drop 28)

/-! ### DES with the salted expansion (43_salt_mixer.md R154, 44_feistel.md R172) -/

/-- The twelve salt bits: the first effective character's value, least significant first, then the second's (R154). -/
def saltBits (v0 v1 : Sextet) : List Bool := (List.range 6).map (v0.getLsbD ·) ++ (List.range 6).map (v1.getLsbD ·)

/-- E with output bits s and s+24, counted from 0, exchanged for every set salt bit s (R154). -/
def saltedExpansion (salt half : List Bool) : List Bool :=
  let e := fipsSelect fipsE half
  (List.range 48).map fun n =>
    if salt.getD (n % 24) false then e.getD ((n + 24) % 48) false else e.getD n false

/-- The cipher function: expansion, subkey, S-boxes, P. -/
def fipsCipher (salt half subkey : List Bool) : List Bool :=
  let x := List.zipWith xor (saltedExpansion salt half) subkey
  let b (n : Nat) : Bool := x.getD n false
  let so := (List.finRange 8).flatMap fun q =>
    let o := 6 * q.val
    fipsSBits (fipsSEntry q (b o) (b (o + 1)) (b (o + 2)) (b (o + 3)) (b (o + 4)) (b (o + 5)))
  fipsSelect fipsP so

/-- The rounds: `(L, R) -> (R, L xor f(R, K))` for each subkey. -/
def fipsRounds (salt : List Bool) : List (List Bool) → List Bool × List Bool → List Bool × List Bool
  | [], h => h
  | k :: ks, (l, r) => fipsRounds salt ks (r, List.zipWith xor l (fipsCipher salt r k))

/-- DES encryption of a 64-bit block under round subkeys, with the salted expansion: IP, sixteen rounds, the exchange of
the halves, and FP. -/
def fipsEncrypt (salt : List Bool) (subkeys : List (List Bool)) (block : List Bool) : List Bool :=
  let b := fipsSelect fipsIp block
  let (l, r) := fipsRounds salt subkeys (b.take 32, b.drop 32)
  fipsSelect fipsFp (r ++ l)

/-- n encryptions, one after the other. -/
def fipsIterate (salt : List Bool) (subkeys : List (List Bool)) : Nat → List Bool → List Bool
  | 0, b => b
  | n + 1, b => fipsIterate salt subkeys n (fipsEncrypt salt subkeys b)

end Sys2Proof.Machine
end

