-- ==== Sys2Proof/Machine/HostAsm.lean ====
section
/-! DEFINITION. The spec's host assembly (30_encoding.md R87, R88) over one engine, and the end of a run
(70_reset_and_hazards.md R251). The host is an agent beside the engine: its scratch values are not engine state (R87). -/

namespace Sys2Proof.Machine

/-- A host program running against one engine. Log entry 17. -/
structure HostRun where
  engine  : State
  prog    : List HostStmt
  /-- The index of the statement the host performs next. -/
  next    : Nat
  /-- h0 to h7 (R87). -/
  scratch : Vector Word 8
  halted  : Bool
  deriving DecidableEq, Repr

/-- A program at its first statement, beside an engine after reset. -/
def HostRun.start (prog : List HostStmt) : HostRun := ⟨State.reset, prog, 0, Vector.replicate 8 0, false⟩

/-- What a turn of the run answers. -/
abbrev RunResult := Host.Outcome HostRun Fault Refusal

/-- The host goes on to statement `n` after the engine's answer to its access. -/
def HostRun.afterAccess (r : HostRun) (answer : StepResult) : RunResult :=
  match answer with
  | .next s => .next { r with engine := s, next := r.next + 1 }
  | .fault f => .fault f
  | .refused q => .refused q

/-- `hN <- ` the value the read returned. -/
def HostRun.latchRead (r : HostRun) (h : Fin 8) (answer : StepResult) : RunResult :=
  match answer with
  | .next s =>
    .next { r with engine := s, next := r.next + 1, scratch := r.scratch.set h.val (s.readData.getD (r.scratch[h])) }
  | .fault f => .fault f
  | .refused q => .refused q

/-- The host's turn: one statement (R87). Each `wr` and `rd` is one bus access at the register's offset. -/
def hostTurn (r : HostRun) : RunResult :=
  if r.halted then .next r
  else
    match r.prog[r.next]? with
    | none => .fault .hostNoStatement
    | some (.wr reg imm) => r.afterAccess (takeEvent (.write reg.offset 4 imm) r.engine)
    | some (.rd h reg) => r.latchRead h (takeEvent (.read reg.offset 4) r.engine)
    | some (.bit1 h k label) => .next { r with next := if (r.scratch[h]).getLsbD k.val then label else r.next + 1 }
    | some (.bit0 h k label) => .next { r with next := if (r.scratch[h]).getLsbD k.val then r.next + 1 else label }
    | some .halt => .next { r with halted := true }

/-- The sequencer's turn beside the host: the commit of the pending command, if there is one. -/
def engineTurn (r : HostRun) : RunResult :=
  match sequencerTurn r.engine with
  | .next s => .next { r with engine := s }
  | .fault f => .fault f
  | .refused q => .refused q

/-- The run is over when the host has executed `halt` and PENDING is None (R251). -/
def HostRun.ended (r : HostRun) : Bool := r.halted && !r.engine.busy

/-! ### Pseudo-instructions (R88) -/

/-- `cmd <mnemonic>`. -/
def cmdStmts (i : Instr) : List HostStmt := [.wr .cmd (encode i)]

/-- `wait`, placed at statement `at_`: read STATUS until BUSY is 0. -/
def waitStmts (at_ : Nat) : List HostStmt := [.rd 7 .status, .bit1 7 0 at_]

/-- `clrst`: W1C of DONE and ERR. -/
def clrstStmts : List HostStmt := [.wr .status 0x0000000A]

/-- `secret b0 .. bn`: missing bytes are 0, bytes beyond b7 are dropped, the length saturates at 255. -/
def secretStmts (b : List Byte) : List HostStmt :=
  let k (n : Nat) : Byte := b.getD n 0
  [.wr .secret0 (wordOfBytes (k 0) (k 1) (k 2) (k 3)), .wr .secret1 (wordOfBytes (k 4) (k 5) (k 6) (k 7)),
   .wr .secretLen (BitVec.ofNat 32 (min b.length 255))]

/-- `salt`, `salt c0`, `salt c0 c1 ...`. -/
def saltStmts : List Byte → List HostStmt
  | [] => [.wr .salt 0x00000000]
  | [c0] => [.wr .salt (0x00010000 ||| c0.setWidth 32)]
  | c0 :: c1 :: _ => [.wr .salt (0x00020000 ||| (c1.setWidth 32 <<< 8) ||| c0.setWidth 32)]

end Sys2Proof.Machine
end

