-- ==== Sys2Proof/Machine/Sequence.lean ====
section
/-! DEFINITION. The sequencing of the datapath inside a command: its step sequence (42_key_scheduler.md R141,
43_salt_mixer.md R158, 44_feistel.md R173, 45_encoder.md R186, 46_control.md R195) and what each step does to the working
registers (10_state.md R42 to R46). The machine's own step is the commit, which publishes what the last datapath step leaves
(20_memory.md R66); nothing observes the steps before it. -/

namespace Sys2Proof.Machine

/-- One datapath step, as the step counts of 70_reset_and_hazards.md R250 count them. -/
inductive DatapathStep where
  /-- KEYSCHED's packing step (R131). -/
  | pack
  /-- Key round k (R133 to R135). -/
  | keyRound (k : Fin 16)
  /-- SALTMIX's one step of selection and lookup (R150 to R152). -/
  | mixSalt
  /-- Half 0 or 1 of round pair p (R166). -/
  | round (p : Fin 8) (half : Fin 2)
  /-- The exchange that ends an outer iteration (R166). -/
  | swap
  /-- The final exchange (R167). -/
  | exchange
  /-- Call n of the output permutation (R168). -/
  | outputExchange (n : Fin 5)
  /-- ENCODE's serialisation step (R181). -/
  | serialise
  /-- Encoder group g (R181). -/
  | group (g : Fin 11)
  deriving DecidableEq, Repr

/-- The working registers and the results being built, none of them host-visible before the commit. -/
structure Datapath where
  /-- The key halves (R42). -/
  key     : KeyHalves
  /-- KS' (R135). -/
  ks      : Vector Word 32
  saltEff : BitVec 17
  eswap0  : Word
  eswap1  : Word
  /-- The cipher halves (R43). -/
  halves  : Halves
  /-- OUT0' and OUT1' (R168). -/
  out     : Halves
  /-- The encoder's byte buffer and group values (R45). -/
  ob      : Vector Byte 9
  gv      : Vector Sextet 11
  deriving DecidableEq, Repr

/-- The datapath as a command starts: the snapshot's values, the zero block (R165), and the key halves and encoder values
whatever they were (R42, R45: written before they are read). -/
def Datapath.start (snap : Snapshot) (key : KeyHalves) (ob : Vector Byte 9) (gv : Vector Sextet 11) : Datapath :=
  ⟨key, snap.ks, snap.saltEff, snap.eswap0, snap.eswap1, ⟨0, 0⟩, ⟨snap.out0, snap.out1⟩, ob, gv⟩

/-- What one step does, for the command's snapshot. -/
def DatapathStep.run (snap : Snapshot) (w : Datapath) : DatapathStep → Datapath
  | .pack => { w with key := permuteKey (packKey snap.secret0 snap.secret1 snap.secretLen) }
  | .keyRound k =>
    let h := rotateKey shifts2[k] w.key
    let s := compressC h.c
    let t := compressD h.d
    { w with
      key := h
      ks := (w.ks.set (2 * k.val) (subkeyEven s t) (by omega)).set (2 * k.val + 1) (subkeyOdd s t) (by omega) }
  | .mixSalt =>
    let eff := effectiveSalt snap.salt
    { w with saltEff := eff, eswap0 := swapMask0 eff, eswap1 := swapMask1 eff }
  | .round p half =>
    let key : CipherKey := ⟨w.ks, w.eswap0, w.eswap1⟩
    match half with
    | 0 => { w with halves := ⟨roundFn key w.halves.l w.halves.r ⟨2 * p.val, by omega⟩, w.halves.r⟩ }
    | 1 => { w with halves := ⟨w.halves.l, roundFn key w.halves.r w.halves.l ⟨2 * p.val + 1, by omega⟩⟩ }
  | .swap => { w with halves := swapHalves w.halves }
  | .exchange => { w with halves := finalExchange w.halves }
  | .outputExchange n => { w with halves := outputStep w.halves n, out := outputStep w.halves n }
  | .serialise => { w with ob := outBytes w.out.l w.out.r }
  | .group g => { w with gv := w.gv.set g.val (groupValue w.ob g) }

/-- A step sequence, in order. -/
def DatapathStep.runAll (snap : Snapshot) (steps : List DatapathStep) (w : Datapath) : Datapath :=
  steps.foldl (DatapathStep.run snap) w

/-- KEYSCHED: one packing step and sixteen key rounds (R141). -/
def keyschedSteps : List DatapathStep := .pack :: (List.finRange 16).map .keyRound

/-- One outer iteration: sixteen round steps and one swap (R173). -/
def iterationSteps : List DatapathStep :=
  (List.finRange 8).flatMap (fun p => [.round p 0, .round p 1]) ++ [.swap]

/-- ENCRYPT: 25 outer iterations, the final exchange, five permute-exchange calls (R173). -/
def encryptSteps : List DatapathStep :=
  (List.replicate 25 iterationSteps).flatten ++ .exchange :: (List.finRange 5).map .outputExchange

/-- ENCODE: one serialisation step and eleven groups (R186). -/
def encodeSteps : List DatapathStep := .serialise :: (List.finRange 11).map .group

/-- The step sequence of a command before its commit (R141, R158, R173, R186, R195). HASH with an empty salt runs only the
SALTMIX and ENCODE steps (R195). -/
def commandSteps (i : Instr) (snap : Snapshot) : List DatapathStep :=
  match i with
  | .nop => []
  | .keysched => keyschedSteps
  | .saltmix => [.mixSalt]
  | .encrypt => encryptSteps
  | .encode => encodeSteps
  | .hash =>
    if saltLen snap.salt = 0 then .mixSalt :: encodeSteps
    else .mixSalt :: (keyschedSteps ++ encryptSteps ++ encodeSteps)
  | .clear => []

/-- What the encoder's groups make of the effective salt (R180, R181). -/
def Datapath.encoded (w : Datapath) : Encoded :=
  let ch (g : Fin 11) : Byte := cov2char.lookup w.gv[g]
  if effValid w.saltEff then
    ⟨wordOfBytes (effCh0 w.saltEff) (effCh1 w.saltEff) (ch 0) (ch 1), wordOfBytes (ch 2) (ch 3) (ch 4) (ch 5),
     wordOfBytes (ch 6) (ch 7) (ch 8) (ch 9), ch 10, 13, false⟩
  else emptyResult

/-- The registers a command's commit writes, from the datapath (R82). -/
def Datapath.publish (i : Instr) (w : Datapath) (s : State) : State :=
  match i with
  | .nop => s
  | .keysched => s.withKs w.ks
  | .saltmix => s.withMasks w.eswap0 w.eswap1 w.saltEff
  | .encrypt => s.withOut w.out.l w.out.r
  | .encode => s.withResult w.encoded
  | .hash => (((s.withMasks w.eswap0 w.eswap1 w.saltEff).withKs w.ks).withOut w.out.l w.out.r).withResult w.encoded
  | .clear => s.scrub

end Sys2Proof.Machine
end

