-- ==== Sys2Proof/Safety.lean ====
section
/-! DEFINITION. The terms claims use: frames over the register window, the effect of a CommandError, a command waited for,
defined events, and the invariant of the machine. -/

namespace Sys2Proof.Machine

/-- Every register of the window but those listed reads as before. -/
def SameRegsBut (ex : List Reg) (s t : State) : Prop := ∀ r : Reg, r ∉ ex → t.readReg r = s.readReg r

/-- The 32 registers of the schedule. -/
def ksRegs : List Reg := (List.finRange 32).map Reg.ks

/-- The result registers: what commits write and the host cannot (10_state.md R23). -/
def resultRegs : List Reg :=
  [.saltEff, .eswap0, .eswap1, .out0, .out1, .resultLen, .result0, .result1, .result2, .result3] ++ ksRegs

/-- The registers a host can write to and read back (10_state.md R23, access RW). -/
def rwRegs : List Reg := [.irqEn, .secretLen, .secret0, .secret1, .salt]

/-- The bits a register uses; a read of any other bit gives 0 (R23 to R35, R49). -/
def usedBits : Reg → Word
  | .cmd => 0
  | .status => 0x0000000F
  | .irqEn => 0x00000003
  | .secretLen => 0x000000FF
  | .secret0 => 0xFFFFFFFF
  | .secret1 => 0xFFFFFFFF
  | .salt => 0x0003FFFF
  | .saltEff => 0x0001FFFF
  | .eswap0 => 0xFFFFFFFF
  | .eswap1 => 0xFFFFFFFF
  | .out0 => 0xFFFFFFFF
  | .out1 => 0xFFFFFFFF
  | .resultLen => 0x000000FF
  | .errCause => 0x00000003
  | .errWord => 0xFFFFFFFF
  | .reserved3C => 0
  | .result0 => 0xFFFFFFFF
  | .result1 => 0xFFFFFFFF
  | .result2 => 0xFFFFFFFF
  | .result3 => 0x000000FF
  | .reserved50 _ => 0
  | .ks _ => 0xFFFFFFFF

/-- What the environment owns and no command touches: the events to come, and what the host has read. -/
def SameOutside (s t : State) : Prop := t.inputs = s.inputs ∧ t.readData = s.readData

/-- The state of a CommandError(reason) for the rejected word v: ERR set, the capture on a first error alone, and nothing
else (60_exceptions.md R202). -/
def CommandErrorEffect (reason : ErrReason) (v : Word) (s t : State) : Prop :=
  t.err = true ∧
  (s.err = false → t.errCause = reason.code ∧ t.errWord = v) ∧
  (s.err = true → t.errCause = s.errCause ∧ t.errWord = s.errWord) ∧
  t.done = s.done ∧ t.empty = s.empty ∧ t.pending = s.pending ∧
  SameRegsBut [.status, .errCause, .errWord] s t ∧ SameOutside s t

/-- The flags a commit leaves: DONE set, BUSY clear, EMPTY and ERR as given (20_memory.md R66). -/
def CommitFlags (empty err : Bool) (t : State) : Prop :=
  t.done = true ∧ t.pending = none ∧ t.empty = empty ∧ t.err = err

/-- What every command rule says of its encoding and its acceptance: the CMD write of w to an idle engine is command i with
the snapshot of that moment, DONE cleared and BUSY set (30_encoding.md R80, 20_memory.md R65); with a command in flight it is
CommandError(BUSY); and the operands of a command in flight are its snapshot. -/
def AcceptedAs (w : Word) (i : Instr) : Prop :=
  (∀ s : State, s.pending = none → ∃ t, s.hostWrite 0x000 4 w = .next t ∧ t.pending = some ⟨i, s.snapshot⟩ ∧
    t.busy = true ∧ t.done = false ∧ t.empty = s.empty ∧ t.err = s.err ∧ SameRegsBut [.status] s t ∧ SameOutside s t) ∧
  (∀ s : State, s.pending ≠ none → ∃ t, s.hostWrite 0x000 4 w = .next t ∧ CommandErrorEffect .busy w s t) ∧
  (∀ (s : State) (p : Pending), s.pending = some p → s.operands = p.snap)

/-- A command written to CMD and waited for: the CMD write, then the commit (70_reset_and_hazards.md R236). -/
def runCommand (i : Instr) (s : State) : StepResult :=
  match s.hostWrite (Reg.offset .cmd) 4 (encode i) with
  | .next s' => sequencerTurn s'
  | .fault f => .fault f
  | .refused q => .refused q

/-- Several commands, each waited for, in order. -/
def runCommands : List Instr → State → StepResult
  | [], s => .next s
  | i :: is, s =>
    match runCommand i s with
    | .next s' => runCommands is s'
    | .fault f => .fault f
    | .refused q => .refused q

/-- An access the spec defines: 4 bytes, aligned, inside the window (20_memory.md R61 to R64). -/
def accessDefined (off : Int) (n : Nat) : Bool := n == 4 && 0 ≤ off && off < 0x100 && off % 4 == 0

/-- An event the host may cause (70_reset_and_hazards.md R252). -/
def Event.isDefined : Event → Bool
  | .read off n => accessDefined off n
  | .write off n _ => accessDefined off n
  | .commit => true
  | .reset => true
  | .accessInReset => false

/-- A host access that is no CMD write: it starts no command and reports no error. -/
def Event.isQuietAccess : Event → Bool
  | .read off n => accessDefined off n
  | .write off n _ => accessDefined off n && off != 0
  | .commit => false
  | .reset => false
  | .accessInReset => false

/-- A byte that COV_2CHAR holds (40_tables.md R104). -/
def isAlphabet (b : Byte) : Bool := (List.range 64).any fun n => cov2char.lookup (BitVec.ofNat 6 n) == b

/-- Output character k, byte `k mod 4` of RESULT{k div 4} (10_state.md R34). -/
def State.resultChar (s : State) (k : Fin 13) : Byte :=
  if k.val < 4 then byteOfWord s.result0 k.val
  else if k.val < 8 then byteOfWord s.result1 (k.val - 4)
  else if k.val < 12 then byteOfWord s.result2 (k.val - 8)
  else s.result3

/-- The invariant of the engine: what holds at reset and every step keeps. -/
structure State.Inv (s : State) : Prop where
  /-- ERR_CAUSE.CODE = 0 exactly when STATUS.ERR = 0 (10_state.md R49). -/
  causeIffErr : s.errCause = 0 ↔ s.err = false
  /-- ERR_WORD is 0 while no error is recorded (R49). -/
  wordIfErr : s.err = false → s.errWord = 0
  /-- DONE is 0 while a command is in flight (R25). -/
  notDoneWhileBusy : s.pending.isSome → s.done = false
  /-- ESWAP0 and ESWAP1 are the masks of SALT_EFF (43_salt_mixer.md R151, R153). -/
  mask0 : s.eswap0 = swapMask0 s.saltEff
  mask1 : s.eswap1 = swapMask1 s.saltEff
  /-- SALT_EFF is 0 unless VALID (43_salt_mixer.md R152). -/
  effZero : effValid s.saltEff = false → s.saltEff = 0
  /-- The schedule's unused bits are 0 (42_key_scheduler.md R137). -/
  ksEven : ∀ k : Fin 16, s.ks[2 * k.val]'(by omega) &&& 0xC0C0C0C0 = 0
  ksOdd : ∀ k : Fin 16, s.ks[2 * k.val + 1]'(by omega) &&& 0x0C0C0C0C = 0
  /-- RESULT_LEN is 0 or 13 and nothing else (10_state.md R33). -/
  lenShape : s.resultLen = 0 ∨ s.resultLen = 13
  /-- With RESULT_LEN = 0 all four RESULT words are 0 (R34). -/
  emptyWords : s.resultLen = 0 → s.result0 = 0 ∧ s.result1 = 0 ∧ s.result2 = 0 ∧ s.result3 = 0
  /-- EMPTY is set only with RESULT_LEN = 0 (R25). -/
  emptyLen : s.empty = true → s.resultLen = 0
  /-- Characters 2 to 12 of a result are alphabet characters (45_encoder.md R183). -/
  alphabet : s.resultLen = 13 → ∀ k : Fin 13, 2 ≤ k.val → isAlphabet (s.resultChar k) = true
  /-- While a command is in flight no one writes the registers only commits write, so its snapshot still shows them
  (20_memory.md R62, R65, R66). -/
  snapResults : ∀ p, s.pending = some p →
    p.snap.saltEff = s.saltEff ∧ p.snap.eswap0 = s.eswap0 ∧ p.snap.eswap1 = s.eswap1 ∧ p.snap.out0 = s.out0 ∧
    p.snap.out1 = s.out1 ∧ p.snap.ks = s.ks

end Sys2Proof.Machine
end

