-- ==== Sys2Proof/Certificates/Slice0/Obligations.lean ====
section
/-! DEFINITION. The statements for the provers, from the numbered rules of spec/. -/

open Sys2Proof Sys2Proof.Machine

/-! ### Command words -/

/-- 30_encoding.md section 2: the seven words as the opcode map writes them out. -/
def Obligations.CommandWordsWrittenOut : Prop :=
  decodeWord 0b00000000000000000000000000000000 = .command .nop ∧
  decodeWord 0b00000000000000000000000000000001 = .command .keysched ∧
  decodeWord 0b00000000000000000000000000000010 = .command .saltmix ∧
  decodeWord 0b00000000000000000000000000000011 = .command .encrypt ∧
  decodeWord 0b00000000000000000000000000000100 = .command .encode ∧
  decodeWord 0b00000000000000000000000000000101 = .command .hash ∧
  decodeWord 0b00000000000000000000000000001111 = .command .clear

/-- 30_encoding.md sections 1 and 2: a word is a command exactly when it is that command's word, exactly when the command's
row of the opcode table matches it. The two clauses on bytes are the model's: the spec has no decoder on bytes, and byte 0 of a
command word is bits 7:0 by log entry 11 (DEDUCED). -/
def Obligations.DecodeReadsExactlyTheEncodedWords : Prop :=
  (∀ (w : Word) (i : Instr), decodeWord w = .command i ↔ w = encode i) ∧
  (∀ (w : Word) (i : Instr), decodeWord w = .command i ↔ ∃ row ∈ opRows, row.instr = i ∧ w &&& row.mask = row.bits) ∧
  (∀ (i : Instr) (rest : List Byte), i.wf = true → decode (encodeBytes i ++ rest) = .word (.command i) rest) ∧
  (∀ (w : Word) (rest : List Byte),
    decode ([byteOfWord w 0, byteOfWord w 1, byteOfWord w 2, byteOfWord w 3] ++ rest) = .word (decodeWord w) rest)

/-- R84: the seven words are legal; every other word is reserved, and an idle engine answers its write with a CommandError
that names the reserved bits, or else the reserved opcode, and does nothing else. -/
def Obligations.ReservedWordsAreIllegal : Prop :=
  (∀ i : Instr, decodeWord (encode i) = .command i) ∧
  ∀ (w : Word), (∀ i : Instr, w ≠ encode i) → ∀ s : State, s.pending = none →
    (w.extractLsb' 4 28 ≠ 0 →
      ∃ t, s.hostWrite 0x000 4 w = .next t ∧ CommandErrorEffect .reservedBits w s t) ∧
    (w.extractLsb' 4 28 = 0 → 0x6 ≤ w.extractLsb' 0 4 ∧ w.extractLsb' 0 4 ≤ 0xE ∧
      ∃ t, s.hostWrite 0x000 4 w = .next t ∧ CommandErrorEffect .reservedOp w s t)

/-- R80 and R86: what a CMD write of v does in every state. BUSY names the reason first, then the reserved bits, then the
reserved opcode; any other word is accepted, with the snapshot, DONE cleared and PENDING set, and no other register
changed. -/
def Obligations.CmdWriteDecodes : Prop :=
  ∀ (s : State) (v : Word),
    (s.pending ≠ none →
      ∃ t, s.hostWrite 0x000 4 v = .next t ∧ CommandErrorEffect .busy v s t) ∧
    (s.pending = none → v.extractLsb' 4 28 ≠ 0 →
      ∃ t, s.hostWrite 0x000 4 v = .next t ∧ CommandErrorEffect .reservedBits v s t) ∧
    (s.pending = none → v.extractLsb' 4 28 = 0 → 0x6 ≤ v.extractLsb' 0 4 → v.extractLsb' 0 4 ≤ 0xE →
      ∃ t, s.hostWrite 0x000 4 v = .next t ∧ CommandErrorEffect .reservedOp v s t) ∧
    (s.pending = none → v.extractLsb' 4 28 = 0 → v.extractLsb' 0 4 ≤ 0x5 ∨ v.extractLsb' 0 4 = 0xF →
      ∃ t i, s.hostWrite 0x000 4 v = .next t ∧ i.op = v.extractLsb' 0 4 ∧ t.pending = some ⟨i, s.snapshot⟩ ∧
        t.busy = true ∧ t.done = false ∧ t.empty = s.empty ∧ t.err = s.err ∧ SameRegsBut [.status] s t ∧
        SameOutside s t)

/-- R203: the three reasons with their codes and conditions, in the step of a CMD write that finds ERR = 0; STATUS.ERR rises
in no other step; code 0 stands while no error has been recorded since ERR was cleared. -/
def Obligations.ErrorsComeFromCmdWritesAlone : Prop :=
  (∀ (s : State) (v : Word) (rest : List Event), s.inputs = .write 0x000 4 v :: rest → s.err = false →
    (s.pending ≠ none → ∃ t, step s = .next t ∧ t.err = true ∧ t.errCause = 1 ∧ t.errWord = v) ∧
    (s.pending = none → v.extractLsb' 4 28 ≠ 0 → ∃ t, step s = .next t ∧ t.err = true ∧ t.errCause = 2 ∧ t.errWord = v) ∧
    (s.pending = none → v.extractLsb' 4 28 = 0 → 0x6 ≤ v.extractLsb' 0 4 → v.extractLsb' 0 4 ≤ 0xE →
      ∃ t, step s = .next t ∧ t.err = true ∧ t.errCause = 3 ∧ t.errWord = v)) ∧
  (∀ s t : State, step s = .next t → (s.err = false → s.errCause = 0) → t.err = false → t.errCause = 0) ∧
  ∀ s t : State, step s = .next t → s.err = false → t.err = true →
    ∃ v rest, s.inputs = .write 0x000 4 v :: rest ∧ t.errWord = v ∧
      ((s.pending ≠ none ∧ t.errCause = 1) ∨
       (s.pending = none ∧ v.extractLsb' 4 28 ≠ 0 ∧ t.errCause = 2) ∨
       (s.pending = none ∧ v.extractLsb' 4 28 = 0 ∧ 0x6 ≤ v.extractLsb' 0 4 ∧ v.extractLsb' 0 4 ≤ 0xE ∧ t.errCause = 3))

/-- 10_state.md section 2 (ERR_CAUSE and ERR_WORD): a step leaves the capture alone, or a CMD write that finds ERR = 0 records
its word, or a W1C of STATUS.ERR, the commit of CLEAR or reset sets both to 0. -/
def Obligations.ErrorCaptureWriters : Prop :=
  ∀ s t : State, step s = .next t →
    (t.errCause = s.errCause ∧ t.errWord = s.errWord) ∨
    (s.err = false ∧ t.err = true ∧ t.errCause ≠ 0 ∧ ∃ rest, s.inputs = .write 0x000 4 t.errWord :: rest) ∨
    (t.errCause = 0 ∧ t.errWord = 0 ∧ t.err = false ∧
      ((∃ v rest, s.inputs = .write 0x004 4 v :: rest ∧ v.getLsbD 3 = true) ∨
       (∃ p, s.pending = some p ∧ p.op = .clear ∧ t.pending = none) ∨
       (∃ rest, s.inputs = .reset :: rest)))

/-! ### The register window -/

/-- 10_state.md section 4: after reset every host-visible register reads 0, PENDING is None and IRQ is 0, the last of which the
spec derives from the other values. -/
def Obligations.ResetClearsEveryRegister : Prop :=
  (∀ r : Reg, State.reset.readReg r = 0) ∧ State.reset.pending = none ∧ State.reset.irq = false

/-- 10_state.md section 2: the 64 words of the window are the registers, and every register is at the offset the map gives. -/
def Obligations.RegisterMapIsOneToOne : Prop :=
  (∀ n : Fin 64, (Reg.atIndex n).offset = 4 * n.val) ∧
  (∀ r : Reg, ∃ n : Fin 64, Reg.atIndex n = r) ∧
  Reg.offset .cmd = 0x000 ∧ Reg.offset .status = 0x004 ∧ Reg.offset .irqEn = 0x008 ∧ Reg.offset .secretLen = 0x00C ∧
  Reg.offset .secret0 = 0x010 ∧ Reg.offset .secret1 = 0x014 ∧ Reg.offset .salt = 0x018 ∧ Reg.offset .saltEff = 0x01C ∧
  Reg.offset .eswap0 = 0x020 ∧ Reg.offset .eswap1 = 0x024 ∧ Reg.offset .out0 = 0x028 ∧ Reg.offset .out1 = 0x02C ∧
  Reg.offset .resultLen = 0x030 ∧ Reg.offset .errCause = 0x034 ∧ Reg.offset .errWord = 0x038 ∧
  Reg.offset .reserved3C = 0x03C ∧ Reg.offset .result0 = 0x040 ∧ Reg.offset .result1 = 0x044 ∧
  Reg.offset .result2 = 0x048 ∧ Reg.offset .result3 = 0x04C ∧
  (∀ i : Fin 12, Reg.offset (.reserved50 i) = 0x050 + 4 * i.val) ∧ (∀ i : Fin 32, Reg.offset (.ks i) = 0x080 + 4 * i.val)

/-- R61: a defined read returns the register at its offset, CMD, reserved offsets and unused bits return 0, and no register, flag, PENDING
or IRQ changes. -/
def Obligations.ReadsReturnTheRegisterAndChangeNothing : Prop :=
  (∀ (s : State) (off : Int), accessDefined off 4 = true →
    ∃ r t, (r : Reg).offset = off ∧ s.hostRead off 4 = .next t ∧ t.readData = some (s.readReg r) ∧
      SameRegsBut [] s t ∧ t.done = s.done ∧ t.empty = s.empty ∧ t.err = s.err ∧ t.pending = s.pending ∧
      t.irq = s.irq ∧ t.inputs = s.inputs) ∧
  (∀ s : State, s.readReg .cmd = 0 ∧ s.readReg .reserved3C = 0 ∧ ∀ i, s.readReg (.reserved50 i) = 0) ∧
  (∀ (s : State) (r : Reg), s.readReg r &&& ~~~usedBits r = 0)

/-- 20_memory.md section 1: only aligned 32-bit accesses inside the window have a step; every other read or write stops the
model. That the stop is a fault of the model is its own form of the spec's "stuck" (log entry 3). -/
def Obligations.UndefinedAccessesStop : Prop :=
  ∀ (s : State) (off : Int) (n : Nat) (v : Word),
    (n = 4 ∧ 0 ≤ off ∧ off < 0x100 ∧ off % 4 = 0 →
      (∃ t, s.hostRead off n = .next t) ∧ ∃ t, s.hostWrite off n v = .next t) ∧
    (¬(n = 4 ∧ 0 ≤ off ∧ off < 0x100 ∧ off % 4 = 0) →
      (∃ f, s.hostRead off n = .fault f) ∧ ∃ f, s.hostWrite off n v = .fault f)

/-- 00_scope.md sections 4 and 5: an absolute access has a step exactly at the aligned words of the 256 bytes from ENGINE_BASE.
That ENGINE_BASE is a multiple of 256 is 92_eei_decisions.md D4, which the model codes in the constant itself: log entry 1
(DESIGN CHOICE). -/
def Obligations.AbsoluteAccessesReachTheWindow : Prop :=
  Config.engineBase % 256 = 0 ∧
  ∀ (s : State) (addr n : Nat) (v : Word),
    ((∃ t, s.memRead addr n = .next t) ↔
      n = 4 ∧ ∃ off, addr = Config.engineBase + off ∧ off < 0x100 ∧ off % 4 = 0) ∧
    ((∃ t, s.memWrite addr n v = .next t) ↔
      n = 4 ∧ ∃ off, addr = Config.engineBase + off ∧ off < 0x100 ∧ off % 4 = 0)

/-- R39: a written RW field reads back unchanged within its bits, unused bits read 0, and nothing else changes, whether a
command is in flight or not. -/
def Obligations.RwRegistersReadBack : Prop :=
  ∀ (s : State) (r : Reg) (v : Word), r ∈ rwRegs →
    (∃ t, s.hostWrite r.offset 4 v = .next t ∧ t.readReg r = v &&& usedBits r ∧ SameRegsBut [r] s t ∧
      t.pending = s.pending ∧ SameOutside s t) ∧
    s.readReg r &&& ~~~usedBits r = 0

/-- 20_memory.md section 1: a write to a read-only register or a reserved offset has no effect. -/
def Obligations.ReadOnlyWritesAreIgnored : Prop :=
  ∀ (s : State) (r : Reg) (v : Word), r ∉ rwRegs → r ≠ .cmd → r ≠ .status →
    ∃ t, s.hostWrite r.offset 4 v = .next t ∧ SameRegsBut [] s t ∧ t.pending = s.pending ∧ t.irq = s.irq ∧
      SameOutside s t

/-- 10_state.md section 2 (STATUS): the register's bits, and what a write to it does. -/
def Obligations.StatusLayoutAndWriteOneToClear : Prop :=
  ∀ (s : State),
    (s.readReg .status).getLsbD 0 = s.pending.isSome ∧ (s.readReg .status).getLsbD 1 = s.done ∧
    (s.readReg .status).getLsbD 2 = s.empty ∧ (s.readReg .status).getLsbD 3 = s.err ∧
    (∀ k, 4 ≤ k → (s.readReg .status).getLsbD k = false) ∧
    ∀ v : Word, ∃ t, s.hostWrite 0x004 4 v = .next t ∧
      t.done = (s.done && !v.getLsbD 1) ∧ t.err = (s.err && !v.getLsbD 3) ∧
      t.errCause = (if v.getLsbD 3 then 0 else s.errCause) ∧ t.errWord = (if v.getLsbD 3 then 0 else s.errWord) ∧
      t.empty = s.empty ∧ t.pending = s.pending ∧ SameRegsBut [.status, .errCause, .errWord] s t ∧ SameOutside s t

/-- R71: reads, RW writes and STATUS writes are idempotent; a CMD write is not. -/
def Obligations.OnlyCmdWritesAreNotIdempotent : Prop :=
  (∀ (s : State) (r : Reg), ∃ t u, s.hostRead r.offset 4 = .next t ∧ t.hostRead r.offset 4 = .next u ∧
    u.readData = t.readData ∧ SameRegsBut [] s u ∧ u.pending = s.pending) ∧
  (∀ (s : State) (r : Reg) (v : Word), r ≠ .cmd → ∃ t u, s.hostWrite r.offset 4 v = .next t ∧
    t.hostWrite r.offset 4 v = .next u ∧ SameRegsBut [] t u ∧ u.pending = t.pending) ∧
  (∃ (s : State) (v : Word) (t u : State), s.hostWrite (Reg.offset .cmd) 4 v = .next t ∧
    t.hostWrite (Reg.offset .cmd) 4 v = .next u ∧ ¬SameRegsBut [] t u)

/-- 60_exceptions.md section 2: what sets and what clears each of the two interrupt sources; and, as the spec derives from R210,
that a source already set raises IRQ as soon as it is enabled. -/
def Obligations.InterruptSources : Prop :=
  ∀ s : State,
    (∀ i, ∃ t, exec i s = .next t ∧ t.done = true) ∧
    (∀ reason v, (s.commandError reason v).err = true) ∧
    (∀ i, (s.accept i).done = false) ∧
    (∀ v : Word, v.getLsbD 1 = true → ∃ t, s.hostWrite 0x004 4 v = .next t ∧ t.done = false) ∧
    (∀ v : Word, v.getLsbD 3 = true → ∃ t, s.hostWrite 0x004 4 v = .next t ∧ t.err = false) ∧
    (∃ t, exec .clear s = .next t ∧ t.err = false) ∧
    s.resetStep.done = false ∧ s.resetStep.err = false ∧
    (∀ v : Word, ∃ t, s.hostWrite 0x008 4 v = .next t ∧
      t.irq = ((s.done && v.getLsbD 0) || (s.err && v.getLsbD 1)))

/-! ### The commands: result, completion and frame -/

/-- R190: the all-zero word is accepted as NOP, which sets DONE at its commit and changes no other register. -/
def Obligations.NopOnlySetsDone : Prop :=
  AcceptedAs 0x00000000 .nop ∧
  ∀ s : State, ∃ t, exec .nop s = .next t ∧ CommitFlags s.empty s.err t ∧ SameRegsBut [.status] s t ∧ SameOutside s t

/-- R140: KEYSCHED writes KS from the snapshot's secret and nothing else; an empty secret gives the zero schedule, a
length above 8 behaves as 8, bit 7 of a secret byte does not count, and all-ones key bits give the all-ones schedule. -/
def Obligations.KeyschedCommitsTheSchedule : Prop :=
  AcceptedAs 0x00000001 .keysched ∧
  (∀ s : State, ∃ t, exec .keysched s = .next t ∧
    t.ks = keySched s.operands.secret0 s.operands.secret1 s.operands.secretLen ∧
    CommitFlags s.empty s.err t ∧ SameRegsBut (.status :: ksRegs) s t ∧ SameOutside s t) ∧
  (∀ s0 s1 : Word, keySched s0 s1 0 = Vector.replicate 32 0) ∧
  (∀ (s0 s1 : Word) (len : BitVec 8), 8 ≤ len → keySched s0 s1 len = keySched s0 s1 8) ∧
  (∀ (s0 s1 : Word) (len : BitVec 8), keySched (s0 &&& 0x7F7F7F7F) (s1 &&& 0x7F7F7F7F) len = keySched s0 s1 len) ∧
  (∀ k : Fin 16, (keySched 0xFFFFFFFF 0xFFFFFFFF 8)[2 * k.val]'(by omega) = 0x3F3F3F3F ∧
    (keySched 0xFFFFFFFF 0xFFFFFFFF 8)[2 * k.val + 1]'(by omega) = 0xF3F3F3F3)

/-- R152 and R153: SALTMIX writes SALT_EFF, ESWAP0 and ESWAP1 from the snapshot's SALT and nothing else: zero for the empty
salt, the first character twice for one character, the first two characters otherwise; the masks are the characters' table
values, in bits 5:0 and 9:4. -/
def Obligations.SaltmixCommitsTheMasks : Prop :=
  AcceptedAs 0x00000002 .saltmix ∧
  ∀ s : State, ∃ t, exec .saltmix s = .next t ∧
    (saltLen s.operands.salt = 0 → t.saltEff = 0 ∧ t.eswap0 = 0 ∧ t.eswap1 = 0) ∧
    (saltLen s.operands.salt ≠ 0 →
      effValid t.saltEff = true ∧ effCh0 t.saltEff = saltCh0 s.operands.salt ∧
      effCh1 t.saltEff =
        (if saltLen s.operands.salt = 1 then saltCh0 s.operands.salt else saltCh1 s.operands.salt) ∧
      t.eswap0 = (conSalt (effCh0 t.saltEff)).setWidth 32 ∧
      t.eswap1 = (conSalt (effCh1 t.saltEff)).setWidth 32 <<< 4) ∧
    CommitFlags s.empty s.err t ∧ SameRegsBut [.status, .saltEff, .eswap0, .eswap1] s t ∧ SameOutside s t

/-- R171: ENCRYPT writes OUT0 and OUT1 from the snapshot's KS, ESWAP0 and ESWAP1 and nothing else, whatever SALT_EFF.VALID is.
Written to CMD and waited for twice in a row it gives the same OUT, and so written from reset it gives the rule's two words. -/
def Obligations.EncryptCommitsTheCiphertext : Prop :=
  AcceptedAs 0x00000003 .encrypt ∧
  (∀ s : State, ∃ t, exec .encrypt s = .next t ∧
    t.out0 = (encryptBlock ⟨s.operands.ks, s.operands.eswap0, s.operands.eswap1⟩).l ∧
    t.out1 = (encryptBlock ⟨s.operands.ks, s.operands.eswap0, s.operands.eswap1⟩).r ∧
    CommitFlags s.empty s.err t ∧ SameRegsBut [.status, .out0, .out1] s t ∧ SameOutside s t) ∧
  (∀ s : State, s.pending = none → ∃ t u, runCommand .encrypt s = .next t ∧ runCommand .encrypt t = .next u ∧
    SameRegsBut [] t u) ∧
  (∃ t, runCommand .encrypt State.reset = .next t ∧ t.out0 = 0xE94DA68C ∧ t.out1 = 0xA723B1C1)

/-- R180 and R182: ENCODE of an invalid SALT_EFF commits the empty result, with EMPTY; ENCODE of a valid one commits a result of
length 13 with EMPTY clear; nothing else changes. -/
def Obligations.EncodeCommitsTheResult : Prop :=
  AcceptedAs 0x00000004 .encode ∧
  ∀ s : State, ∃ t, exec .encode s = .next t ∧
    (effValid s.operands.saltEff = false →
      t.result0 = 0 ∧ t.result1 = 0 ∧ t.result2 = 0 ∧ t.result3 = 0 ∧ t.resultLen = 0 ∧ t.empty = true) ∧
    (effValid s.operands.saltEff = true →
      t.resultLen = 13 ∧ t.empty = false ∧
      (encodeResult s.operands.saltEff s.operands.out0 s.operands.out1).result0 = t.result0 ∧
      (encodeResult s.operands.saltEff s.operands.out0 s.operands.out1).result1 = t.result1 ∧
      (encodeResult s.operands.saltEff s.operands.out0 s.operands.out1).result2 = t.result2 ∧
      (encodeResult s.operands.saltEff s.operands.out0 s.operands.out1).result3 = t.result3) ∧
    CommitFlags t.empty s.err t ∧ SameRegsBut [.status, .resultLen, .result0, .result1, .result2, .result3] s t ∧
    SameOutside s t

/-- R181: the thirteen characters ENCODE commits: the effective salt's bytes verbatim, then the output alphabet's characters of
the eleven groups, as the rule's table of fields gives them. -/
def Obligations.EncodeWalksTheGroups : Prop :=
  ∀ s : State, effValid s.operands.saltEff = true → ∃ t, exec .encode s = .next t ∧
    let ob (k : Nat) : Byte := if k < 4 then byteOfWord s.operands.out0 k else byteOfWord s.operands.out1 (k - 4)
    let bits (k lo n : Nat) : BitVec n := (ob k).extractLsb' lo n
    t.resultChar 0 = effCh0 s.operands.saltEff ∧ t.resultChar 1 = effCh1 s.operands.saltEff ∧
    t.resultChar 2 = cov2char.lookup (bits 0 2 6) ∧
    t.resultChar 3 = cov2char.lookup (bits 0 0 2 ++ bits 1 4 4) ∧
    t.resultChar 4 = cov2char.lookup (bits 1 0 4 ++ bits 2 6 2) ∧
    t.resultChar 5 = cov2char.lookup (bits 2 0 6) ∧
    t.resultChar 6 = cov2char.lookup (bits 3 2 6) ∧
    t.resultChar 7 = cov2char.lookup (bits 3 0 2 ++ bits 4 4 4) ∧
    t.resultChar 8 = cov2char.lookup (bits 4 0 4 ++ bits 5 6 2) ∧
    t.resultChar 9 = cov2char.lookup (bits 5 0 6) ∧
    t.resultChar 10 = cov2char.lookup (bits 6 2 6) ∧
    t.resultChar 11 = cov2char.lookup (bits 6 0 2 ++ bits 7 4 4) ∧
    t.resultChar 12 = cov2char.lookup (bits 7 0 4 ++ (0 : BitVec 2)) ∧
    t.resultLen = 13 ∧ t.empty = false

/-- 46_control.md (HASH): HASH commits the masks; for a non-empty salt the schedule and the ciphertext of the snapshot's secret;
for an empty salt ESWAP = SALT_EFF = 0, and KS and OUT keep their values in an idle state and in every state that meets the
invariant; then the encoding of these; nothing else changes. That in any other state the commit writes the snapshot's KS and OUT
is the model's reading, log entry 19 (DEDUCED). -/
def Obligations.HashCommitsEveryResult : Prop :=
  AcceptedAs 0x00000005 .hash ∧
  ∀ s : State, ∃ t, exec .hash s = .next t ∧
    t.saltEff = effectiveSalt s.operands.salt ∧ t.eswap0 = swapMask0 t.saltEff ∧ t.eswap1 = swapMask1 t.saltEff ∧
    (saltLen s.operands.salt ≠ 0 →
      t.ks = keySched s.operands.secret0 s.operands.secret1 s.operands.secretLen ∧
      t.out0 = (encryptBlock ⟨t.ks, t.eswap0, t.eswap1⟩).l ∧ t.out1 = (encryptBlock ⟨t.ks, t.eswap0, t.eswap1⟩).r ∧
      t.resultLen = 13 ∧ t.empty = false) ∧
    (saltLen s.operands.salt = 0 →
      t.saltEff = 0 ∧ t.eswap0 = 0 ∧ t.eswap1 = 0 ∧
      (s.pending = none ∨ s.Inv → t.ks = s.ks ∧ t.out0 = s.out0 ∧ t.out1 = s.out1) ∧
      t.ks = s.operands.ks ∧ t.out0 = s.operands.out0 ∧ t.out1 = s.operands.out1 ∧
      t.resultLen = 0 ∧ t.result0 = 0 ∧ t.result1 = 0 ∧ t.result2 = 0 ∧ t.result3 = 0 ∧ t.empty = true) ∧
    encodeResult t.saltEff t.out0 t.out1 = ⟨t.result0, t.result1, t.result2, t.result3, t.resultLen, t.empty⟩ ∧
    CommitFlags t.empty s.err t ∧ SameRegsBut (.status :: resultRegs) s t ∧ SameOutside s t

/-- R192: after CLEAR's commit every register reads 0 but IRQ_EN, which keeps its value, and STATUS, which reads DONE
alone. -/
def Obligations.ClearScrubsAllButIrqEn : Prop :=
  AcceptedAs 0x0000000F .clear ∧
  ∀ s : State, ∃ t, exec .clear s = .next t ∧ (∀ r : Reg, r ≠ .irqEn → r ≠ .status → t.readReg r = 0) ∧
    t.readReg .irqEn = s.readReg .irqEn ∧ t.readReg .status = 0x00000002 ∧ CommitFlags false false t ∧ SameOutside s t

/-! ### The datapath -/

/-- R101: CON_SALT gives an alphabet character's position in COV_2CHAR, and 0 for every other byte. -/
def Obligations.SaltMapInvertsTheAlphabet : Prop :=
  ∀ b : Byte,
    (∃ i : Sextet, cov2char.lookup i = b ∧ conSalt b = i) ∨ ((∀ i : Sextet, cov2char.lookup i ≠ b) ∧ conSalt b = 0)

/-- 40_tables.md section 6: SKB and SPTRANS, as listed, are what the generation rules make of the FIPS 46 tables. -/
def Obligations.TablesFollowTheGenerationRules : Prop :=
  (∀ (k : Fin 8) (x : Sextet), (skb[k]).lookup x = skbGenerated k x) ∧
  (∀ (q : Fin 8) (x : Sextet), (sptrans[q]).lookup x = sptransGenerated q x)

/-- 40_tables.md sections 3 and 4: no entry of SKB or SPTRANS has a bit outside its table's output mask. -/
def Obligations.TableEntriesStayInTheirMasks : Prop :=
  (∀ (k : Fin 8) (x : Sextet), (skb[k]).lookup x &&& ~~~((#v[0x20090830, 0x12202404, 0x09040203, 0x04121108, 0x30111004,
    0x0A020409, 0x01280310, 0x04042822] : Vector Word 8)[k]) = 0) ∧
  (∀ (q : Fin 8) (x : Sextet), (sptrans[q]).lookup x &&& ~~~((#v[0x80820200, 0x10042004, 0x41010040, 0x04100402, 0x02004108,
    0x20080810, 0x00401081, 0x08208020] : Vector Word 8)[q]) = 0)

/-- 41_bitperm.md section on permute-exchange: under the rule's condition on the mask it swaps `b[i]` with `a[i+shift]` for
each mask bit i and changes no other bit, and applying it twice restores the operands. -/
def Obligations.PermuteExchangeSwapsSelectedBits : Prop :=
  ∀ (a b mask : Word) (sh : Fin 32), (∀ i, 32 - sh.val ≤ i → mask.getLsbD i = false) →
    (∀ i, i < 32 → (permuteExchange a b sh mask).2.getLsbD i =
      if mask.getLsbD i then a.getLsbD (i + sh.val) else b.getLsbD i) ∧
    (∀ i, i < 32 → (permuteExchange a b sh mask).1.getLsbD i =
      if sh.val ≤ i ∧ mask.getLsbD (i - sh.val) = true then b.getLsbD (i - sh.val) else a.getLsbD i) ∧
    permuteExchange (permuteExchange a b sh mask).1 (permuteExchange a b sh mask).2 sh mask = (a, b)

/-- 41_bitperm.md section on half-permute: if no two mask bits stand D apart, it swaps `a[i]` with `a[i-D]` for each mask bit
i >= D and changes no other bit. -/
def Obligations.HalfPermuteSwapsSelectedBits : Prop :=
  ∀ (a mask : Word) (dist : Nat), 1 ≤ dist → dist ≤ 31 → mask &&& (mask >>> dist) = 0 →
    (∀ i, i < dist → mask.getLsbD i = false) →
    ∀ i, i < 32 → (halfPermuteAt a dist mask).getLsbD i =
      if mask.getLsbD i then a.getLsbD (i - dist)
      else if mask.getLsbD (i + dist) then a.getLsbD (i + dist) else a.getLsbD i

/-- 41_bitperm.md and 93_implementation_defined.md U14 (refuse): the checked forms refuse a distance outside the operand range and
run every other. That there are checked forms, and the name they refuse by, is the model's choice: log entry 16 (DESIGN
CHOICE). -/
def Obligations.DistancesOutOfRangeAreRefused : Prop :=
  (∀ (a b mask : Word) (n : Nat), 32 ≤ n → permuteExchangeChecked a b n mask = .refused .shiftDistance) ∧
  (∀ (a b mask : Word) (n : Fin 32), permuteExchangeChecked a b n.val mask = .next (permuteExchange a b n mask)) ∧
  (∀ (a mask : Word) (n : Int), 16 - n < 1 ∨ 31 < 16 - n → halfPermuteChecked a n mask = .refused .shiftDistance) ∧
  (∀ (a mask : Word) (n : Int), 1 ≤ 16 - n → 16 - n ≤ 31 →
    halfPermuteChecked a n mask = .next (halfPermuteAt a (16 - n).toNat mask)) ∧
  (∀ a mask : Word, halfPermuteChecked a (-2) mask = .next (halfPermute a mask))

/-- 42_key_scheduler.md section 1: the initial permutation leaves C and D of PC1 in `c` and `d`, and nothing above bit 27. -/
def Obligations.InitialKeyPermutationIsPc1 : Prop :=
  ∀ (s0 s1 : Word) (len : BitVec 8),
    let h := permuteKey (packKey s0 s1 len)
    let cd := fipsSelect fipsPc1 (fipsKey s0 s1 len)
    keyHalfBits h.c = cd.take 28 ∧ keyHalfBits h.d = cd.drop 28 ∧ h.c >>> 28 = 0 ∧ h.d >>> 28 = 0

/-- 40_tables.md on SHIFTS2: the sixteen rotations sum to 28, so every u28 pair of key halves returns to itself. -/
def Obligations.SixteenRotationsReturnTheKey : Prop :=
  ∀ h : KeyHalves, h.c >>> 28 = 0 → h.d >>> 28 = 0 → shifts2.toList.foldl (fun h f => rotateKey f h) h = h

/-- 42_key_scheduler.md section 1: the schedule's unused bits are zero for every secret. -/
def Obligations.ScheduleLeavesUnusedBitsZero : Prop :=
  ∀ (s0 s1 : Word) (len : BitVec 8) (k : Fin 16),
    (keySched s0 s1 len)[2 * k.val]'(by omega) &&& 0xC0C0C0C0 = 0 ∧
    (keySched s0 s1 len)[2 * k.val + 1]'(by omega) &&& 0x0C0C0C0C = 0

/-- 42_key_scheduler.md section 1: the schedule depends on bits 6:0 of the first `min(LEN, 8)` secret bytes alone. -/
def Obligations.ScheduleReadsOnlyTheKeyBits : Prop :=
  ∀ (s0 s1 u0 u1 : Word) (len len' : BitVec 8), secretCount len = secretCount len' →
    (∀ k : Fin 8, k.val < secretCount len →
      (secretByte s0 s1 k).extractLsb' 0 7 = (secretByte u0 u1 k).extractLsb' 0 7) →
    keySched s0 s1 len = keySched u0 u1 len'

/-- 42_key_scheduler.md section 2: the subkey words hold exactly the FIPS 46 round subkeys of the secret's key. -/
def Obligations.ScheduleIsTheFips46Schedule : Prop :=
  ∀ (s0 s1 : Word) (len : BitVec 8),
    (List.finRange 16).map (fun k : Fin 16 =>
      subkeyBits ((keySched s0 s1 len)[2 * k.val]'(by omega)) ((keySched s0 s1 len)[2 * k.val + 1]'(by omega))) =
    fipsKeySchedule (fipsKey s0 s1 len)

/-- 43_salt_mixer.md section 3: with a mask below bit 16, the expansion exchanges bits i and i+16 of R exactly where mask bit i
is set, before the subkey. -/
def Obligations.MasksSwapExpansionBits : Prop :=
  ∀ (r mask subkey : Word), mask >>> 16 = 0 → ∀ i, i < 16 →
    (expandHalf r mask subkey).getLsbD i =
      ((if mask.getLsbD i then r.getLsbD (i + 16) else r.getLsbD i) ^^ subkey.getLsbD i) ∧
    (expandHalf r mask subkey).getLsbD (i + 16) =
      ((if mask.getLsbD i then r.getLsbD i else r.getLsbD (i + 16)) ^^ subkey.getLsbD (i + 16))

/-- 43_salt_mixer.md section 3: one character and the same character twice mix alike, and different alphabet salts give
different masks. -/
def Obligations.SaltDuplicationAndMaskInjectivity : Prop :=
  (∀ c x : Byte, effectiveSalt ((1 : BitVec 2) ++ x ++ c) = effectiveSalt ((2 : BitVec 2) ++ c ++ c)) ∧
  (∀ a b c d : Byte, isAlphabet a = true → isAlphabet b = true → isAlphabet c = true → isAlphabet d = true →
    swapMask0 (effectiveSalt ((2 : BitVec 2) ++ b ++ a)) = swapMask0 (effectiveSalt ((2 : BitVec 2) ++ d ++ c)) →
    swapMask1 (effectiveSalt ((2 : BitVec 2) ++ b ++ a)) = swapMask1 (effectiveSalt ((2 : BitVec 2) ++ d ++ c)) →
    a = c ∧ b = d)

/-- 44_feistel.md section 1 in the layouts of 40_tables.md section 6: the round function is one FIPS 46 round with the salted
expansion, on every pair of halves, subkey words and salt values. -/
def Obligations.RoundIsTheSaltedFips46Round : Prop :=
  ∀ (v0 v1 : Sextet) (k0 k1 l r : Word),
    feistelBits (roundFnOn (v0.setWidth 32) (v1.setWidth 32 <<< 4) k0 k1 l r) =
      List.zipWith xor (feistelBits l) (fipsCipher (saltBits v0 v1) (feistelBits r) (subkeyBits k0 k1))

/-- 44_feistel.md section 3: after j outer iterations the halves hold IP of j salted DES encryptions of the zero block, and the
OUT bytes are the 25-fold encryption. -/
def Obligations.EncryptIs25FoldSaltedDes : Prop :=
  ∀ (s0 s1 : Word) (len : BitVec 8) (v0 v1 : Sextet),
    let key : CipherKey := ⟨keySched s0 s1 len, v0.setWidth 32, v1.setWidth 32 <<< 4⟩
    let subkeys := fipsKeySchedule (fipsKey s0 s1 len)
    let zero := List.replicate 64 false
    (∀ j, feistelBits (outerIterations key j ⟨0, 0⟩).l ++ feistelBits (outerIterations key j ⟨0, 0⟩).r =
      fipsSelect fipsIp (fipsIterate (saltBits v0 v1) subkeys j zero)) ∧
    outBits (encryptBlock key).l (encryptBlock key).r = fipsIterate (saltBits v0 v1) subkeys 25 zero

/-- 45_encoder.md section 3: for a fixed valid SALT_EFF the result determines OUT0 and OUT1. -/
def Obligations.EncodingIsInjective : Prop :=
  ∀ (eff : BitVec 17) (o0 o1 p0 p1 : Word), effValid eff = true →
    encodeResult eff o0 o1 = encodeResult eff p0 p1 → o0 = p0 ∧ o1 = p1

/-- 45_encoder.md section 3: HASH of a salt of two or more characters echoes its first two, of one character that character
twice; the other eleven characters are of the alphabet and the last one is one of sixteen. -/
def Obligations.HashEchoesTheSalt : Prop :=
  ∀ s : State, saltLen s.operands.salt ≠ 0 → ∃ t, exec .hash s = .next t ∧
    t.resultChar 0 = saltCh0 s.operands.salt ∧
    t.resultChar 1 = (if saltLen s.operands.salt = 1 then saltCh0 s.operands.salt else saltCh1 s.operands.salt) ∧
    (∀ k : Fin 13, 2 ≤ k.val → isAlphabet (t.resultChar k) = true) ∧
    t.resultChar 12 ∈ ([0x2E, 0x32, 0x36, 0x41, 0x45, 0x49, 0x4D, 0x51, 0x55, 0x59, 0x63, 0x67, 0x6B, 0x6F, 0x73,
      0x77] : List Byte)

/-! ### The machine -/

/-- A step runs the accepted command: the sequencer's turn is exec of the pending command, and the CMD write of a command's
word to an idle engine puts that command, with the snapshot, in PENDING. That the sequencer's turn comes at an event `commit`,
and whenever the list of events is empty, is the model's choice: log entry 2 (DESIGN CHOICE). -/
def Obligations.StepRunsTheAcceptedCommand : Prop :=
  (∀ (s : State) (p : Pending), s.pending = some p → s.inputs = [] → step s = exec p.op s) ∧
  (∀ (s : State) (p : Pending) (rest : List Event), s.pending = some p → s.inputs = .commit :: rest →
    step s = exec p.op (s.withInputs rest)) ∧
  (∀ (s : State) (w : Word) (i : Instr) (rest : List Event), s.pending = none → decodeWord w = .command i →
    s.inputs = .write 0x000 4 w :: rest →
    ∃ t, step s = .next t ∧ t.pending = some ⟨i, s.snapshot⟩ ∧ t.inputs = rest ∧ SameRegsBut [.status] s t)

/-- Log entry 8: with a command word placed where the sequencer takes its next command, the very next step is exec of the
command the decoder reads. -/
def Obligations.PlacedWordIsRunNext : Prop :=
  ∀ (s : State) (nbits w : Nat) (i : Instr), decodeTableWord nbits w = some i →
    step (s.withFetchWord nbits w) = exec i (s.withFetchWord nbits w) ∧
    (s.withFetchWord nbits w).operands = s.snapshot

/-- 70_reset_and_hazards.md section 2: the CMD write of a command to an idle engine, then its commit, end in the registers that
exec of the command gives from the same state. What exec takes as operands in an idle state is the model's choice, log entry 7
(DESIGN CHOICE), which this statement justifies. -/
def Obligations.AcceptThenCommitIsExec : Prop :=
  ∀ (i : Instr) (s : State), s.pending = none →
    ∃ t u, runCommand i s = .next t ∧ exec i s = .next u ∧ SameRegsBut [] t u ∧ t.pending = none ∧ SameOutside t u

/-- R65: acceptance copies every input, and a host write to an input register while the command is in flight changes none of
its results, STATUS.EMPTY among them, and is kept for the next command (CLEAR's commit overwrites it). -/
def Obligations.CommandsComputeFromTheirSnapshot : Prop :=
  (∀ (s : State) (i : Instr),
    (s.accept i).pending = some ⟨i, ⟨s.secret0, s.secret1, s.secretLen, s.salt, s.saltEff, s.eswap0, s.eswap1, s.out0,
      s.out1, s.ks⟩⟩) ∧
  (∀ (s : State) (p : Pending) (r : Reg) (v : Word), s.pending = some p → r ∈ rwRegs →
    ∃ s' t u, s.hostWrite r.offset 4 v = .next s' ∧ exec p.op s = .next t ∧ exec p.op s' = .next u ∧
      (∀ q ∈ resultRegs, u.readReg q = t.readReg q) ∧ u.empty = t.empty ∧
      (p.op ≠ .clear → ∀ q ∈ rwRegs, u.readReg q = s'.readReg q))

/-- R66: a step changes the result registers and STATUS.EMPTY only as the commit of the command in flight, which leaves BUSY 0 and DONE 1, or as
reset. -/
def Obligations.ResultsAppearOnlyAtTheCommit : Prop :=
  ∀ s t : State, step s = .next t →
    ((∀ q ∈ resultRegs, t.readReg q = s.readReg q) ∧ t.empty = s.empty) ∨
    (∃ p, s.pending = some p ∧ exec p.op (s.withInputs s.inputs.tail) = .next t ∧ t.busy = false ∧
      t.done = true) ∨
    (∃ rest, s.inputs = .reset :: rest)

/-- R225: a step leaves a command in flight as it is, or commits it, or is reset. -/
def Obligations.OnlyResetEndsACommandWithoutCommit : Prop :=
  ∀ (s t : State) (p : Pending), s.pending = some p → step s = .next t →
    t.pending = some p ∨ exec p.op (s.withInputs s.inputs.tail) = .next t ∨ ∃ rest, s.inputs = .reset :: rest

/-- 70_reset_and_hazards.md section 1: reset, in any state, is one step after which every register reads 0 and PENDING is None;
IRQ is 0, as the spec derives. That the events still to come are kept is the model's choice: log entry 13 (DESIGN CHOICE). -/
def Obligations.ResetIsOneStep : Prop :=
  ∀ (s : State) (rest : List Event), s.inputs = .reset :: rest →
    ∃ t, step s = .next t ∧ (∀ r : Reg, t.readReg r = 0) ∧ t.pending = none ∧ t.irq = false ∧ t.inputs = rest

/-- 70_reset_and_hazards.md section 3: whatever accesses the host still makes, so long as they are defined and write no
command, the command in flight commits when they are done, with the results of its snapshot, STATUS.EMPTY among them. That the commit
comes as soon as the list of events is empty is the model's form of weak fairness: log entry 2 (DESIGN CHOICE). -/
def Obligations.PendingCommandCommits : Prop :=
  ∀ (s : State) (p : Pending), s.pending = some p → (∀ e ∈ s.inputs, e.isQuietAccess = true) →
    ∃ t u, Host.Core.run core (s.inputs.length + 1) s = .next t ∧ exec p.op s = .next u ∧
      t.pending = none ∧ t.done = true ∧ t.empty = u.empty ∧ ∀ q ∈ resultRegs, t.readReg q = u.readReg q

/-- The invariant holds right after reset. -/
def Obligations.ResetMeetsTheInvariant : Prop := State.reset.Inv

/-- Every step keeps the invariant. -/
def Obligations.EveryStepKeepsTheInvariant : Prop := ∀ s t : State, s.Inv → step s = .next t → t.Inv

/-- 46_control.md: HASH ends in the registers that SALTMIX, KEYSCHED, ENCRYPT and ENCODE, each waited for, end in; for an empty
salt, SALTMIX and ENCODE do. -/
def Obligations.HashIsTheComponentSequence : Prop :=
  ∀ s : State, s.pending = none →
    (saltLen s.salt ≠ 0 → ∃ t u, runCommands [.saltmix, .keysched, .encrypt, .encode] s = .next t ∧
      runCommand .hash s = .next u ∧ SameRegsBut [] t u) ∧
    (saltLen s.salt = 0 → ∃ t u, runCommands [.saltmix, .encode] s = .next t ∧
      runCommand .hash s = .next u ∧ SameRegsBut [] t u)

/-- 46_control.md: for a non-empty salt every register HASH writes is a function of the secret, its length and the salt at
acceptance alone. -/
def Obligations.HashDependsOnSecretAndSaltAlone : Prop :=
  ∀ s u : State, saltLen s.operands.salt ≠ 0 → s.operands.secret0 = u.operands.secret0 →
    s.operands.secret1 = u.operands.secret1 → s.operands.secretLen = u.operands.secretLen →
    s.operands.salt = u.operands.salt →
    ∃ s' u', exec .hash s = .next s' ∧ exec .hash u = .next u' ∧ s'.empty = u'.empty ∧
      ∀ q ∈ resultRegs, s'.readReg q = u'.readReg q

/-- 46_control.md and 42_ to 45_ step sequences: a command's datapath steps, one by one from any contents of the working
registers, leave exactly what its commit publishes. That the datapath stands beside one atomic commit is log entry 6 (DEDUCED). -/
def Obligations.StepSequenceRefinesTheCommit : Prop :=
  ∀ (i : Instr) (s : State) (key : KeyHalves) (ob : Vector Byte 9) (gv : Vector Sextet 11),
    exec i s = .next
      (((DatapathStep.runAll s.operands (commandSteps i s.operands) (Datapath.start s.operands key ob gv)).publish i
        s).commit)

/-- 70_reset_and_hazards.md section 4: the step counts of every command. -/
def Obligations.StepCounts : Prop :=
  ∀ snap : Snapshot,
    (commandSteps .nop snap).length = 0 ∧ (commandSteps .keysched snap).length = 17 ∧
    (commandSteps .saltmix snap).length = 1 ∧ (commandSteps .encrypt snap).length = 431 ∧
    (commandSteps .encode snap).length = 12 ∧
    (commandSteps .hash snap).length = (if saltLen snap.salt = 0 then 13 else 461) ∧
    (commandSteps .clear snap).length = 0

/-! ### The host assembly -/

/-- R87: what each machine statement does, at the statement the host is at. -/
def Obligations.HostStatementsMeanTheirAccesses : Prop :=
  ∀ r : HostRun, r.halted = false →
    (∀ reg imm, r.prog[r.next]? = some (.wr reg imm) → ∃ s, r.engine.hostWrite reg.offset 4 imm = .next s ∧
      hostTurn r = .next { r with engine := s, next := r.next + 1 }) ∧
    (∀ h reg, r.prog[r.next]? = some (.rd h reg) → ∃ s, r.engine.hostRead reg.offset 4 = .next s ∧
      hostTurn r = .next
        { r with engine := s, next := r.next + 1, scratch := r.scratch.set h.val (r.engine.readReg reg) }) ∧
    (∀ h k label, r.prog[r.next]? = some (.bit1 h k label) →
      hostTurn r = .next { r with next := if (r.scratch[h]).getLsbD k.val then label else r.next + 1 }) ∧
    (∀ h k label, r.prog[r.next]? = some (.bit0 h k label) →
      hostTurn r = .next { r with next := if (r.scratch[h]).getLsbD k.val = false then label else r.next + 1 }) ∧
    (r.prog[r.next]? = some .halt → hostTurn r = .next { r with halted := true })

/-- 30_encoding.md section 4: the `wait` pseudo-instruction, placed at statement n, is back at n after its two statements while
BUSY is 1, and at n + 2 once BUSY is 0. -/
def Obligations.WaitSpinsWhileBusy : Prop :=
  ∀ (r : HostRun) (n : Nat), r.halted = false → r.next = n →
    r.prog[n]? = (waitStmts n)[0]? → r.prog[n + 1]? = (waitStmts n)[1]? →
    ∃ q q', hostTurn r = .next q ∧ hostTurn q = .next q' ∧ q'.halted = false ∧
      q'.next = (if r.engine.busy then n else n + 2) ∧ SameRegsBut [] r.engine q'.engine ∧
      q'.engine.pending = r.engine.pending
end

