-- ==== Sys2Proof/Laws/Datapath.lean ====
section
/-! SUPPORT. The datapath bit by bit: rotations, the bit-permutation utilities and the round function's expansion, the fields of
an effective salt, and the output alphabet. -/

namespace Sys2Proof.Machine

/-- Bit i of a rotation right (00_scope.md R13). -/
theorem getLsbD_rotr32 (x : Word) {n i : Nat} (hn : n < 32) (hi : i < 32) :
    (rotr32 x n).getLsbD i = if i + n < 32 then x.getLsbD (i + n) else x.getLsbD (i + n - 32) := by
  simp only [rotr32, BitVec.getLsbD_or, BitVec.getLsbD_ushiftRight, BitVec.getLsbD_shiftLeft, hi, decide_true,
    Bool.true_and]
  by_cases h : i + n < 32
  · have h1 : i < 32 - n := by omega
    simp only [h, if_true, h1, decide_true, Bool.not_true, Bool.false_and, Bool.or_false]
    congr 1
    omega
  · have h1 : ¬ i < 32 - n := by omega
    have h2 : x.getLsbD (n + i) = false := BitVec.getLsbD_of_ge _ _ (by omega)
    simp only [h, if_false, h1, decide_false, Bool.not_false, Bool.true_and, h2, Bool.false_or]
    congr 1
    omega

/-- Bit i of permute-exchange's second word: `b ^ t` (41_bitperm.md R120). -/
theorem getLsbD_permuteExchange_snd (a b mask : Word) (sh : Fin 32) (i : Nat) :
    (permuteExchange a b sh mask).2.getLsbD i =
      (b.getLsbD i ^^ ((a.getLsbD (sh.val + i) ^^ b.getLsbD i) && mask.getLsbD i)) := by
  simp [permuteExchange]

/-- Bit i of permute-exchange's first word: `a ^ (t << shift)` (R120). -/
theorem getLsbD_permuteExchange_fst (a b mask : Word) (sh : Fin 32) {i : Nat} (hi : i < 32) :
    (permuteExchange a b sh mask).1.getLsbD i =
      (a.getLsbD i ^^ (!decide (i < sh.val) &&
        ((a.getLsbD (sh.val + (i - sh.val)) ^^ b.getLsbD (i - sh.val)) && mask.getLsbD (i - sh.val)))) := by
  simp only [permuteExchange, BitVec.getLsbD_xor, BitVec.getLsbD_shiftLeft, BitVec.getLsbD_and,
    BitVec.getLsbD_ushiftRight, hi, decide_true, Bool.true_and]

/-- Bit i of one masked half of the expansion (44_feistel.md R162). -/
theorem getLsbD_expandHalf (r mask subkey : Word) {i : Nat} (hi : i < 32) :
    (expandHalf r mask subkey).getLsbD i =
      (((((r.getLsbD i ^^ r.getLsbD (16 + i)) && mask.getLsbD i) ^^
        (!decide (i < 16) && ((r.getLsbD (i - 16) ^^ r.getLsbD (16 + (i - 16))) && mask.getLsbD (i - 16)))) ^^
        r.getLsbD i) ^^ subkey.getLsbD i) := by
  simp only [expandHalf, BitVec.getLsbD_xor, BitVec.getLsbD_shiftLeft, BitVec.getLsbD_and, BitVec.getLsbD_ushiftRight,
    hi, decide_true, Bool.true_and]

/-! ### The effective salt -/

@[simp] theorem effCh0_packed (b a : Byte) : effCh0 (1#1 ++ b ++ a) = a := by
  apply BitVec.eq_of_getLsbD_eq
  intro i hi
  rw [effCh0, BitVec.getLsbD_extractLsb', BitVec.getLsbD_append]
  simp [hi]

@[simp] theorem effCh1_packed (b a : Byte) : effCh1 (1#1 ++ b ++ a) = b := by
  apply BitVec.eq_of_getLsbD_eq
  intro i hi
  rw [effCh1, BitVec.getLsbD_extractLsb', BitVec.getLsbD_append, BitVec.getLsbD_append]
  simp [hi]

@[simp] theorem effValid_packed (b a : Byte) : effValid (1#1 ++ b ++ a) = true := by
  rw [effValid, BitVec.getLsbD_append, BitVec.getLsbD_append]
  rfl

/-- What SALTMIX selects, by the salt's length (43_salt_mixer.md R152). -/
theorem effectiveSalt_cases (x : BitVec 18) :
    (saltLen x = 0 ∧ effectiveSalt x = 0) ∨
    (saltLen x = 1 ∧ effectiveSalt x = (1 : BitVec 1) ++ saltCh0 x ++ saltCh0 x) ∨
    (saltLen x ≠ 0 ∧ saltLen x ≠ 1 ∧ effectiveSalt x = (1 : BitVec 1) ++ saltCh1 x ++ saltCh0 x) := by
  have h : ∀ l : BitVec 2, l.toNat = 0 ∧ l = 0 ∨ l.toNat = 1 ∧ l = 1 ∨ l.toNat ≠ 0 ∧ l.toNat ≠ 1 ∧ l ≠ 0 ∧ l ≠ 1 := by
    decide
  rcases h (saltLen x) with ⟨hn, hl⟩ | ⟨hn, hl⟩ | ⟨h0, h1, hl0, hl1⟩
  · exact .inl ⟨hl, by simp [effectiveSalt, hn]⟩
  · exact .inr (.inl ⟨hl, by simp [effectiveSalt, hn]⟩)
  · refine .inr (.inr ⟨hl0, hl1, ?_⟩)
    unfold effectiveSalt
    split
    · next h => exact absurd h h0
    · next h => exact absurd h h1
    · rfl

theorem effValid_effectiveSalt (x : BitVec 18) : effValid (effectiveSalt x) = true ↔ saltLen x ≠ 0 := by
  rcases effectiveSalt_cases x with ⟨hl, he⟩ | ⟨hl, he⟩ | ⟨hl, -, he⟩
  · simp [hl, he, effValid]
  · rw [he, hl]; simp
  · rw [he]; simpa using hl

/-! ### The output alphabet -/

theorem isAlphabet_lookup (x : Sextet) : isAlphabet (cov2char.lookup x) = true := by revert x; decide +kernel

/-- CON_SALT inverts COV_2CHAR (40_tables.md R101). -/
@[simp] theorem conSalt_lookup (x : Sextet) : conSalt (cov2char.lookup x) = x := by revert x; decide +kernel

end Sys2Proof.Machine
end

