-- ==== Sys2Proof/Laws/Decode.lean ====
section
/-! SUPPORT. The decoder's table: no two rows overlap, and what the decoder answers. -/

namespace Sys2Proof

/-- No word matches two rows of the opcode table. -/
theorem opRows_disjoint : opRows.Pairwise fun a b => a.bits &&& b.mask ≠ b.bits := by decide

/-- The opcode map and the opcodes are inverse. -/
theorem ofOp_eq_some_iff (op : BitVec 4) (i : Instr) : Instr.ofOp op = some i ↔ i.op = op := by
  revert op i
  have h : ∀ (n : Fin 16), ∀ i ∈ [Instr.nop, .keysched, .saltmix, .encrypt, .encode, .hash, .clear],
      Instr.ofOp (BitVec.ofFin n) = some i ↔ i.op = BitVec.ofFin n := by decide
  intro op i
  exact h op.toFin i (by cases i <;> decide)

/-- Everything the decoder can answer for a word. -/
theorem decodeWord_cases (w : Word) :
    (w.extractLsb' 4 28 ≠ 0 ∧ decodeWord w = .rejected .reservedBits) ∨
    (w.extractLsb' 4 28 = 0 ∧ Instr.ofOp (w.extractLsb' 0 4) = none ∧ decodeWord w = .rejected .reservedOp) ∨
    (∃ i, w.extractLsb' 4 28 = 0 ∧ Instr.ofOp (w.extractLsb' 0 4) = some i ∧ decodeWord w = .command i) := by
  by_cases h : w.extractLsb' 4 28 = 0
  · cases ho : Instr.ofOp (w.extractLsb' 0 4) with
    | none => exact .inr (.inl ⟨h, rfl, by simp [decodeWord, Cmd32.decode, Cmd32.ofWord, h, ho]⟩)
    | some i => exact .inr (.inr ⟨i, h, rfl, by simp [decodeWord, Cmd32.decode, Cmd32.ofWord, h, ho]⟩)
  · exact .inl ⟨h, if_pos h⟩

/-- The four bytes of a word make it again (20_memory.md R67). -/
theorem wordOfBytes_bytes (w : Word) :
    wordOfBytes (byteOfWord w 0) (byteOfWord w 1) (byteOfWord w 2) (byteOfWord w 3) = w := by
  unfold wordOfBytes byteOfWord
  apply BitVec.eq_of_getLsbD_eq
  intro i hi
  simp only [BitVec.getLsbD_append, BitVec.getLsbD_extractLsb']
  split
  · next h => simp [h]
  · split
    · next h => simp [h]; congr 1; omega
    · split
      · next h => simp [h]; congr 1; omega
      · next h => rw [decide_eq_true (by omega), Bool.true_and]; congr 1; omega

theorem byteOfWord_wordOfBytes_0 (a b c d : Byte) : byteOfWord (wordOfBytes a b c d) 0 = a := by
  apply BitVec.eq_of_getLsbD_eq
  intro i hi
  rw [byteOfWord, wordOfBytes, BitVec.getLsbD_extractLsb', BitVec.getLsbD_append]
  simp [hi]

theorem byteOfWord_wordOfBytes_1 (a b c d : Byte) : byteOfWord (wordOfBytes a b c d) 1 = b := by
  apply BitVec.eq_of_getLsbD_eq
  intro i hi
  rw [byteOfWord, wordOfBytes, BitVec.getLsbD_extractLsb', BitVec.getLsbD_append, BitVec.getLsbD_append]
  simp [hi]

theorem byteOfWord_wordOfBytes_2 (a b c d : Byte) : byteOfWord (wordOfBytes a b c d) 2 = c := by
  apply BitVec.eq_of_getLsbD_eq
  intro i hi
  rw [byteOfWord, wordOfBytes, BitVec.getLsbD_extractLsb', BitVec.getLsbD_append, BitVec.getLsbD_append,
    BitVec.getLsbD_append, if_neg (by omega), if_neg (by omega), if_pos (by omega), decide_eq_true hi, Bool.true_and]
  congr 1
  omega

theorem byteOfWord_wordOfBytes_3 (a b c d : Byte) : byteOfWord (wordOfBytes a b c d) 3 = d := by
  apply BitVec.eq_of_getLsbD_eq
  intro i hi
  rw [byteOfWord, wordOfBytes, BitVec.getLsbD_extractLsb', BitVec.getLsbD_append, BitVec.getLsbD_append,
    BitVec.getLsbD_append, if_neg (by omega), if_neg (by omega), if_neg (by omega), decide_eq_true hi, Bool.true_and]
  congr 1
  omega

end Sys2Proof
end

