-- ==== Sys2Proof/Laws/State.lean ====
section
/-! SUPPORT. One lemma per field per update of State, each true by rfl. -/

namespace Sys2Proof.Machine

/-! ### hideWork -/

@[simp] theorem State.hideWork_done (s : State) : (s.hideWork).done = s.done := rfl
@[simp] theorem State.hideWork_empty (s : State) : (s.hideWork).empty = s.empty := rfl
@[simp] theorem State.hideWork_err (s : State) : (s.hideWork).err = s.err := rfl
@[simp] theorem State.hideWork_doneIe (s : State) : (s.hideWork).doneIe = s.doneIe := rfl
@[simp] theorem State.hideWork_errIe (s : State) : (s.hideWork).errIe = s.errIe := rfl
@[simp] theorem State.hideWork_secretLen (s : State) : (s.hideWork).secretLen = s.secretLen := rfl
@[simp] theorem State.hideWork_secret0 (s : State) : (s.hideWork).secret0 = s.secret0 := rfl
@[simp] theorem State.hideWork_secret1 (s : State) : (s.hideWork).secret1 = s.secret1 := rfl
@[simp] theorem State.hideWork_salt (s : State) : (s.hideWork).salt = s.salt := rfl
@[simp] theorem State.hideWork_saltEff (s : State) : (s.hideWork).saltEff = s.saltEff := rfl
@[simp] theorem State.hideWork_eswap0 (s : State) : (s.hideWork).eswap0 = s.eswap0 := rfl
@[simp] theorem State.hideWork_eswap1 (s : State) : (s.hideWork).eswap1 = s.eswap1 := rfl
@[simp] theorem State.hideWork_out0 (s : State) : (s.hideWork).out0 = s.out0 := rfl
@[simp] theorem State.hideWork_out1 (s : State) : (s.hideWork).out1 = s.out1 := rfl
@[simp] theorem State.hideWork_resultLen (s : State) : (s.hideWork).resultLen = s.resultLen := rfl
@[simp] theorem State.hideWork_errCause (s : State) : (s.hideWork).errCause = s.errCause := rfl
@[simp] theorem State.hideWork_errWord (s : State) : (s.hideWork).errWord = s.errWord := rfl
@[simp] theorem State.hideWork_result0 (s : State) : (s.hideWork).result0 = s.result0 := rfl
@[simp] theorem State.hideWork_result1 (s : State) : (s.hideWork).result1 = s.result1 := rfl
@[simp] theorem State.hideWork_result2 (s : State) : (s.hideWork).result2 = s.result2 := rfl
@[simp] theorem State.hideWork_result3 (s : State) : (s.hideWork).result3 = s.result3 := rfl
@[simp] theorem State.hideWork_ks (s : State) : (s.hideWork).ks = s.ks := rfl
@[simp] theorem State.hideWork_pending (s : State) : (s.hideWork).pending = s.pending := rfl
@[simp] theorem State.hideWork_c (s : State) : (s.hideWork).c = Config.freeWord s.freeCount := rfl
@[simp] theorem State.hideWork_d (s : State) : (s.hideWork).d = Config.freeWord (s.freeCount + 1) := rfl
@[simp] theorem State.hideWork_left (s : State) : (s.hideWork).left = Config.freeWord (s.freeCount + 2) := rfl
@[simp] theorem State.hideWork_right (s : State) : (s.hideWork).right = Config.freeWord (s.freeCount + 3) := rfl
@[simp] theorem State.hideWork_inputs (s : State) : (s.hideWork).inputs = s.inputs := rfl
@[simp] theorem State.hideWork_readData (s : State) : (s.hideWork).readData = s.readData := rfl
@[simp] theorem State.hideWork_freeCount (s : State) : (s.hideWork).freeCount = s.freeCount + 9 := rfl

/-! ### commit -/

@[simp] theorem State.commit_done (s : State) : (s.commit).done = true := rfl
@[simp] theorem State.commit_empty (s : State) : (s.commit).empty = s.empty := rfl
@[simp] theorem State.commit_err (s : State) : (s.commit).err = s.err := rfl
@[simp] theorem State.commit_doneIe (s : State) : (s.commit).doneIe = s.doneIe := rfl
@[simp] theorem State.commit_errIe (s : State) : (s.commit).errIe = s.errIe := rfl
@[simp] theorem State.commit_secretLen (s : State) : (s.commit).secretLen = s.secretLen := rfl
@[simp] theorem State.commit_secret0 (s : State) : (s.commit).secret0 = s.secret0 := rfl
@[simp] theorem State.commit_secret1 (s : State) : (s.commit).secret1 = s.secret1 := rfl
@[simp] theorem State.commit_salt (s : State) : (s.commit).salt = s.salt := rfl
@[simp] theorem State.commit_saltEff (s : State) : (s.commit).saltEff = s.saltEff := rfl
@[simp] theorem State.commit_eswap0 (s : State) : (s.commit).eswap0 = s.eswap0 := rfl
@[simp] theorem State.commit_eswap1 (s : State) : (s.commit).eswap1 = s.eswap1 := rfl
@[simp] theorem State.commit_out0 (s : State) : (s.commit).out0 = s.out0 := rfl
@[simp] theorem State.commit_out1 (s : State) : (s.commit).out1 = s.out1 := rfl
@[simp] theorem State.commit_resultLen (s : State) : (s.commit).resultLen = s.resultLen := rfl
@[simp] theorem State.commit_errCause (s : State) : (s.commit).errCause = s.errCause := rfl
@[simp] theorem State.commit_errWord (s : State) : (s.commit).errWord = s.errWord := rfl
@[simp] theorem State.commit_result0 (s : State) : (s.commit).result0 = s.result0 := rfl
@[simp] theorem State.commit_result1 (s : State) : (s.commit).result1 = s.result1 := rfl
@[simp] theorem State.commit_result2 (s : State) : (s.commit).result2 = s.result2 := rfl
@[simp] theorem State.commit_result3 (s : State) : (s.commit).result3 = s.result3 := rfl
@[simp] theorem State.commit_ks (s : State) : (s.commit).ks = s.ks := rfl
@[simp] theorem State.commit_pending (s : State) : (s.commit).pending = none := rfl
@[simp] theorem State.commit_c (s : State) : (s.commit).c = Config.freeWord s.freeCount := rfl
@[simp] theorem State.commit_d (s : State) : (s.commit).d = Config.freeWord (s.freeCount + 1) := rfl
@[simp] theorem State.commit_left (s : State) : (s.commit).left = Config.freeWord (s.freeCount + 2) := rfl
@[simp] theorem State.commit_right (s : State) : (s.commit).right = Config.freeWord (s.freeCount + 3) := rfl
@[simp] theorem State.commit_inputs (s : State) : (s.commit).inputs = s.inputs := rfl
@[simp] theorem State.commit_readData (s : State) : (s.commit).readData = s.readData := rfl
@[simp] theorem State.commit_freeCount (s : State) : (s.commit).freeCount = s.freeCount + 9 := rfl

/-! ### withKs -/

@[simp] theorem State.withKs_done (s : State) (k : Vector Word 32) : (s.withKs k).done = s.done := rfl
@[simp] theorem State.withKs_empty (s : State) (k : Vector Word 32) : (s.withKs k).empty = s.empty := rfl
@[simp] theorem State.withKs_err (s : State) (k : Vector Word 32) : (s.withKs k).err = s.err := rfl
@[simp] theorem State.withKs_doneIe (s : State) (k : Vector Word 32) : (s.withKs k).doneIe = s.doneIe := rfl
@[simp] theorem State.withKs_errIe (s : State) (k : Vector Word 32) : (s.withKs k).errIe = s.errIe := rfl
@[simp] theorem State.withKs_secretLen (s : State) (k : Vector Word 32) : (s.withKs k).secretLen = s.secretLen := rfl
@[simp] theorem State.withKs_secret0 (s : State) (k : Vector Word 32) : (s.withKs k).secret0 = s.secret0 := rfl
@[simp] theorem State.withKs_secret1 (s : State) (k : Vector Word 32) : (s.withKs k).secret1 = s.secret1 := rfl
@[simp] theorem State.withKs_salt (s : State) (k : Vector Word 32) : (s.withKs k).salt = s.salt := rfl
@[simp] theorem State.withKs_saltEff (s : State) (k : Vector Word 32) : (s.withKs k).saltEff = s.saltEff := rfl
@[simp] theorem State.withKs_eswap0 (s : State) (k : Vector Word 32) : (s.withKs k).eswap0 = s.eswap0 := rfl
@[simp] theorem State.withKs_eswap1 (s : State) (k : Vector Word 32) : (s.withKs k).eswap1 = s.eswap1 := rfl
@[simp] theorem State.withKs_out0 (s : State) (k : Vector Word 32) : (s.withKs k).out0 = s.out0 := rfl
@[simp] theorem State.withKs_out1 (s : State) (k : Vector Word 32) : (s.withKs k).out1 = s.out1 := rfl
@[simp] theorem State.withKs_resultLen (s : State) (k : Vector Word 32) : (s.withKs k).resultLen = s.resultLen := rfl
@[simp] theorem State.withKs_errCause (s : State) (k : Vector Word 32) : (s.withKs k).errCause = s.errCause := rfl
@[simp] theorem State.withKs_errWord (s : State) (k : Vector Word 32) : (s.withKs k).errWord = s.errWord := rfl
@[simp] theorem State.withKs_result0 (s : State) (k : Vector Word 32) : (s.withKs k).result0 = s.result0 := rfl
@[simp] theorem State.withKs_result1 (s : State) (k : Vector Word 32) : (s.withKs k).result1 = s.result1 := rfl
@[simp] theorem State.withKs_result2 (s : State) (k : Vector Word 32) : (s.withKs k).result2 = s.result2 := rfl
@[simp] theorem State.withKs_result3 (s : State) (k : Vector Word 32) : (s.withKs k).result3 = s.result3 := rfl
@[simp] theorem State.withKs_ks (s : State) (k : Vector Word 32) : (s.withKs k).ks = k := rfl
@[simp] theorem State.withKs_pending (s : State) (k : Vector Word 32) : (s.withKs k).pending = s.pending := rfl
@[simp] theorem State.withKs_c (s : State) (k : Vector Word 32) : (s.withKs k).c = s.c := rfl
@[simp] theorem State.withKs_d (s : State) (k : Vector Word 32) : (s.withKs k).d = s.d := rfl
@[simp] theorem State.withKs_left (s : State) (k : Vector Word 32) : (s.withKs k).left = s.left := rfl
@[simp] theorem State.withKs_right (s : State) (k : Vector Word 32) : (s.withKs k).right = s.right := rfl
@[simp] theorem State.withKs_pos (s : State) (k : Vector Word 32) : (s.withKs k).pos = s.pos := rfl
@[simp] theorem State.withKs_inputs (s : State) (k : Vector Word 32) : (s.withKs k).inputs = s.inputs := rfl
@[simp] theorem State.withKs_readData (s : State) (k : Vector Word 32) : (s.withKs k).readData = s.readData := rfl
@[simp] theorem State.withKs_freeCount (s : State) (k : Vector Word 32) : (s.withKs k).freeCount = s.freeCount := rfl

/-! ### withMasks -/

@[simp] theorem State.withMasks_done (s : State) (e0 e1 : Word) (f : BitVec 17) :
    (s.withMasks e0 e1 f).done = s.done := rfl
@[simp] theorem State.withMasks_empty (s : State) (e0 e1 : Word) (f : BitVec 17) :
    (s.withMasks e0 e1 f).empty = s.empty := rfl
@[simp] theorem State.withMasks_err (s : State) (e0 e1 : Word) (f : BitVec 17) :
    (s.withMasks e0 e1 f).err = s.err := rfl
@[simp] theorem State.withMasks_doneIe (s : State) (e0 e1 : Word) (f : BitVec 17) :
    (s.withMasks e0 e1 f).doneIe = s.doneIe := rfl
@[simp] theorem State.withMasks_errIe (s : State) (e0 e1 : Word) (f : BitVec 17) :
    (s.withMasks e0 e1 f).errIe = s.errIe := rfl
@[simp] theorem State.withMasks_secretLen (s : State) (e0 e1 : Word) (f : BitVec 17) :
    (s.withMasks e0 e1 f).secretLen = s.secretLen := rfl
@[simp] theorem State.withMasks_secret0 (s : State) (e0 e1 : Word) (f : BitVec 17) :
    (s.withMasks e0 e1 f).secret0 = s.secret0 := rfl
@[simp] theorem State.withMasks_secret1 (s : State) (e0 e1 : Word) (f : BitVec 17) :
    (s.withMasks e0 e1 f).secret1 = s.secret1 := rfl
@[simp] theorem State.withMasks_salt (s : State) (e0 e1 : Word) (f : BitVec 17) :
    (s.withMasks e0 e1 f).salt = s.salt := rfl
@[simp] theorem State.withMasks_saltEff (s : State) (e0 e1 : Word) (f : BitVec 17) :
    (s.withMasks e0 e1 f).saltEff = f := rfl
@[simp] theorem State.withMasks_eswap0 (s : State) (e0 e1 : Word) (f : BitVec 17) :
    (s.withMasks e0 e1 f).eswap0 = e0 := rfl
@[simp] theorem State.withMasks_eswap1 (s : State) (e0 e1 : Word) (f : BitVec 17) :
    (s.withMasks e0 e1 f).eswap1 = e1 := rfl
@[simp] theorem State.withMasks_out0 (s : State) (e0 e1 : Word) (f : BitVec 17) :
    (s.withMasks e0 e1 f).out0 = s.out0 := rfl
@[simp] theorem State.withMasks_out1 (s : State) (e0 e1 : Word) (f : BitVec 17) :
    (s.withMasks e0 e1 f).out1 = s.out1 := rfl
@[simp] theorem State.withMasks_resultLen (s : State) (e0 e1 : Word) (f : BitVec 17) :
    (s.withMasks e0 e1 f).resultLen = s.resultLen := rfl
@[simp] theorem State.withMasks_errCause (s : State) (e0 e1 : Word) (f : BitVec 17) :
    (s.withMasks e0 e1 f).errCause = s.errCause := rfl
@[simp] theorem State.withMasks_errWord (s : State) (e0 e1 : Word) (f : BitVec 17) :
    (s.withMasks e0 e1 f).errWord = s.errWord := rfl
@[simp] theorem State.withMasks_result0 (s : State) (e0 e1 : Word) (f : BitVec 17) :
    (s.withMasks e0 e1 f).result0 = s.result0 := rfl
@[simp] theorem State.withMasks_result1 (s : State) (e0 e1 : Word) (f : BitVec 17) :
    (s.withMasks e0 e1 f).result1 = s.result1 := rfl
@[simp] theorem State.withMasks_result2 (s : State) (e0 e1 : Word) (f : BitVec 17) :
    (s.withMasks e0 e1 f).result2 = s.result2 := rfl
@[simp] theorem State.withMasks_result3 (s : State) (e0 e1 : Word) (f : BitVec 17) :
    (s.withMasks e0 e1 f).result3 = s.result3 := rfl
@[simp] theorem State.withMasks_ks (s : State) (e0 e1 : Word) (f : BitVec 17) : (s.withMasks e0 e1 f).ks = s.ks := rfl
@[simp] theorem State.withMasks_pending (s : State) (e0 e1 : Word) (f : BitVec 17) :
    (s.withMasks e0 e1 f).pending = s.pending := rfl
@[simp] theorem State.withMasks_c (s : State) (e0 e1 : Word) (f : BitVec 17) : (s.withMasks e0 e1 f).c = s.c := rfl
@[simp] theorem State.withMasks_d (s : State) (e0 e1 : Word) (f : BitVec 17) : (s.withMasks e0 e1 f).d = s.d := rfl
@[simp] theorem State.withMasks_left (s : State) (e0 e1 : Word) (f : BitVec 17) :
    (s.withMasks e0 e1 f).left = s.left := rfl
@[simp] theorem State.withMasks_right (s : State) (e0 e1 : Word) (f : BitVec 17) :
    (s.withMasks e0 e1 f).right = s.right := rfl
@[simp] theorem State.withMasks_pos (s : State) (e0 e1 : Word) (f : BitVec 17) :
    (s.withMasks e0 e1 f).pos = s.pos := rfl
@[simp] theorem State.withMasks_inputs (s : State) (e0 e1 : Word) (f : BitVec 17) :
    (s.withMasks e0 e1 f).inputs = s.inputs := rfl
@[simp] theorem State.withMasks_readData (s : State) (e0 e1 : Word) (f : BitVec 17) :
    (s.withMasks e0 e1 f).readData = s.readData := rfl
@[simp] theorem State.withMasks_freeCount (s : State) (e0 e1 : Word) (f : BitVec 17) :
    (s.withMasks e0 e1 f).freeCount = s.freeCount := rfl

/-! ### withOut -/

@[simp] theorem State.withOut_done (s : State) (o0 o1 : Word) : (s.withOut o0 o1).done = s.done := rfl
@[simp] theorem State.withOut_empty (s : State) (o0 o1 : Word) : (s.withOut o0 o1).empty = s.empty := rfl
@[simp] theorem State.withOut_err (s : State) (o0 o1 : Word) : (s.withOut o0 o1).err = s.err := rfl
@[simp] theorem State.withOut_doneIe (s : State) (o0 o1 : Word) : (s.withOut o0 o1).doneIe = s.doneIe := rfl
@[simp] theorem State.withOut_errIe (s : State) (o0 o1 : Word) : (s.withOut o0 o1).errIe = s.errIe := rfl
@[simp] theorem State.withOut_secretLen (s : State) (o0 o1 : Word) : (s.withOut o0 o1).secretLen = s.secretLen := rfl
@[simp] theorem State.withOut_secret0 (s : State) (o0 o1 : Word) : (s.withOut o0 o1).secret0 = s.secret0 := rfl
@[simp] theorem State.withOut_secret1 (s : State) (o0 o1 : Word) : (s.withOut o0 o1).secret1 = s.secret1 := rfl
@[simp] theorem State.withOut_salt (s : State) (o0 o1 : Word) : (s.withOut o0 o1).salt = s.salt := rfl
@[simp] theorem State.withOut_saltEff (s : State) (o0 o1 : Word) : (s.withOut o0 o1).saltEff = s.saltEff := rfl
@[simp] theorem State.withOut_eswap0 (s : State) (o0 o1 : Word) : (s.withOut o0 o1).eswap0 = s.eswap0 := rfl
@[simp] theorem State.withOut_eswap1 (s : State) (o0 o1 : Word) : (s.withOut o0 o1).eswap1 = s.eswap1 := rfl
@[simp] theorem State.withOut_out0 (s : State) (o0 o1 : Word) : (s.withOut o0 o1).out0 = o0 := rfl
@[simp] theorem State.withOut_out1 (s : State) (o0 o1 : Word) : (s.withOut o0 o1).out1 = o1 := rfl
@[simp] theorem State.withOut_resultLen (s : State) (o0 o1 : Word) : (s.withOut o0 o1).resultLen = s.resultLen := rfl
@[simp] theorem State.withOut_errCause (s : State) (o0 o1 : Word) : (s.withOut o0 o1).errCause = s.errCause := rfl
@[simp] theorem State.withOut_errWord (s : State) (o0 o1 : Word) : (s.withOut o0 o1).errWord = s.errWord := rfl
@[simp] theorem State.withOut_result0 (s : State) (o0 o1 : Word) : (s.withOut o0 o1).result0 = s.result0 := rfl
@[simp] theorem State.withOut_result1 (s : State) (o0 o1 : Word) : (s.withOut o0 o1).result1 = s.result1 := rfl
@[simp] theorem State.withOut_result2 (s : State) (o0 o1 : Word) : (s.withOut o0 o1).result2 = s.result2 := rfl
@[simp] theorem State.withOut_result3 (s : State) (o0 o1 : Word) : (s.withOut o0 o1).result3 = s.result3 := rfl
@[simp] theorem State.withOut_ks (s : State) (o0 o1 : Word) : (s.withOut o0 o1).ks = s.ks := rfl
@[simp] theorem State.withOut_pending (s : State) (o0 o1 : Word) : (s.withOut o0 o1).pending = s.pending := rfl
@[simp] theorem State.withOut_c (s : State) (o0 o1 : Word) : (s.withOut o0 o1).c = s.c := rfl
@[simp] theorem State.withOut_d (s : State) (o0 o1 : Word) : (s.withOut o0 o1).d = s.d := rfl
@[simp] theorem State.withOut_left (s : State) (o0 o1 : Word) : (s.withOut o0 o1).left = s.left := rfl
@[simp] theorem State.withOut_right (s : State) (o0 o1 : Word) : (s.withOut o0 o1).right = s.right := rfl
@[simp] theorem State.withOut_pos (s : State) (o0 o1 : Word) : (s.withOut o0 o1).pos = s.pos := rfl
@[simp] theorem State.withOut_inputs (s : State) (o0 o1 : Word) : (s.withOut o0 o1).inputs = s.inputs := rfl
@[simp] theorem State.withOut_readData (s : State) (o0 o1 : Word) : (s.withOut o0 o1).readData = s.readData := rfl
@[simp] theorem State.withOut_freeCount (s : State) (o0 o1 : Word) : (s.withOut o0 o1).freeCount = s.freeCount := rfl

/-! ### withResult -/

@[simp] theorem State.withResult_done (s : State) (e : Encoded) : (s.withResult e).done = s.done := rfl
@[simp] theorem State.withResult_empty (s : State) (e : Encoded) : (s.withResult e).empty = e.empty := rfl
@[simp] theorem State.withResult_err (s : State) (e : Encoded) : (s.withResult e).err = s.err := rfl
@[simp] theorem State.withResult_doneIe (s : State) (e : Encoded) : (s.withResult e).doneIe = s.doneIe := rfl
@[simp] theorem State.withResult_errIe (s : State) (e : Encoded) : (s.withResult e).errIe = s.errIe := rfl
@[simp] theorem State.withResult_secretLen (s : State) (e : Encoded) : (s.withResult e).secretLen = s.secretLen := rfl
@[simp] theorem State.withResult_secret0 (s : State) (e : Encoded) : (s.withResult e).secret0 = s.secret0 := rfl
@[simp] theorem State.withResult_secret1 (s : State) (e : Encoded) : (s.withResult e).secret1 = s.secret1 := rfl
@[simp] theorem State.withResult_salt (s : State) (e : Encoded) : (s.withResult e).salt = s.salt := rfl
@[simp] theorem State.withResult_saltEff (s : State) (e : Encoded) : (s.withResult e).saltEff = s.saltEff := rfl
@[simp] theorem State.withResult_eswap0 (s : State) (e : Encoded) : (s.withResult e).eswap0 = s.eswap0 := rfl
@[simp] theorem State.withResult_eswap1 (s : State) (e : Encoded) : (s.withResult e).eswap1 = s.eswap1 := rfl
@[simp] theorem State.withResult_out0 (s : State) (e : Encoded) : (s.withResult e).out0 = s.out0 := rfl
@[simp] theorem State.withResult_out1 (s : State) (e : Encoded) : (s.withResult e).out1 = s.out1 := rfl
@[simp] theorem State.withResult_resultLen (s : State) (e : Encoded) : (s.withResult e).resultLen = e.len := rfl
@[simp] theorem State.withResult_errCause (s : State) (e : Encoded) : (s.withResult e).errCause = s.errCause := rfl
@[simp] theorem State.withResult_errWord (s : State) (e : Encoded) : (s.withResult e).errWord = s.errWord := rfl
@[simp] theorem State.withResult_result0 (s : State) (e : Encoded) : (s.withResult e).result0 = e.result0 := rfl
@[simp] theorem State.withResult_result1 (s : State) (e : Encoded) : (s.withResult e).result1 = e.result1 := rfl
@[simp] theorem State.withResult_result2 (s : State) (e : Encoded) : (s.withResult e).result2 = e.result2 := rfl
@[simp] theorem State.withResult_result3 (s : State) (e : Encoded) : (s.withResult e).result3 = e.result3 := rfl
@[simp] theorem State.withResult_ks (s : State) (e : Encoded) : (s.withResult e).ks = s.ks := rfl
@[simp] theorem State.withResult_pending (s : State) (e : Encoded) : (s.withResult e).pending = s.pending := rfl
@[simp] theorem State.withResult_c (s : State) (e : Encoded) : (s.withResult e).c = s.c := rfl
@[simp] theorem State.withResult_d (s : State) (e : Encoded) : (s.withResult e).d = s.d := rfl
@[simp] theorem State.withResult_left (s : State) (e : Encoded) : (s.withResult e).left = s.left := rfl
@[simp] theorem State.withResult_right (s : State) (e : Encoded) : (s.withResult e).right = s.right := rfl
@[simp] theorem State.withResult_pos (s : State) (e : Encoded) : (s.withResult e).pos = s.pos := rfl
@[simp] theorem State.withResult_inputs (s : State) (e : Encoded) : (s.withResult e).inputs = s.inputs := rfl
@[simp] theorem State.withResult_readData (s : State) (e : Encoded) : (s.withResult e).readData = s.readData := rfl
@[simp] theorem State.withResult_freeCount (s : State) (e : Encoded) : (s.withResult e).freeCount = s.freeCount := rfl

/-! ### accept -/

@[simp] theorem State.accept_done (s : State) (i : Instr) : (s.accept i).done = false := rfl
@[simp] theorem State.accept_empty (s : State) (i : Instr) : (s.accept i).empty = s.empty := rfl
@[simp] theorem State.accept_err (s : State) (i : Instr) : (s.accept i).err = s.err := rfl
@[simp] theorem State.accept_doneIe (s : State) (i : Instr) : (s.accept i).doneIe = s.doneIe := rfl
@[simp] theorem State.accept_errIe (s : State) (i : Instr) : (s.accept i).errIe = s.errIe := rfl
@[simp] theorem State.accept_secretLen (s : State) (i : Instr) : (s.accept i).secretLen = s.secretLen := rfl
@[simp] theorem State.accept_secret0 (s : State) (i : Instr) : (s.accept i).secret0 = s.secret0 := rfl
@[simp] theorem State.accept_secret1 (s : State) (i : Instr) : (s.accept i).secret1 = s.secret1 := rfl
@[simp] theorem State.accept_salt (s : State) (i : Instr) : (s.accept i).salt = s.salt := rfl
@[simp] theorem State.accept_saltEff (s : State) (i : Instr) : (s.accept i).saltEff = s.saltEff := rfl
@[simp] theorem State.accept_eswap0 (s : State) (i : Instr) : (s.accept i).eswap0 = s.eswap0 := rfl
@[simp] theorem State.accept_eswap1 (s : State) (i : Instr) : (s.accept i).eswap1 = s.eswap1 := rfl
@[simp] theorem State.accept_out0 (s : State) (i : Instr) : (s.accept i).out0 = s.out0 := rfl
@[simp] theorem State.accept_out1 (s : State) (i : Instr) : (s.accept i).out1 = s.out1 := rfl
@[simp] theorem State.accept_resultLen (s : State) (i : Instr) : (s.accept i).resultLen = s.resultLen := rfl
@[simp] theorem State.accept_errCause (s : State) (i : Instr) : (s.accept i).errCause = s.errCause := rfl
@[simp] theorem State.accept_errWord (s : State) (i : Instr) : (s.accept i).errWord = s.errWord := rfl
@[simp] theorem State.accept_result0 (s : State) (i : Instr) : (s.accept i).result0 = s.result0 := rfl
@[simp] theorem State.accept_result1 (s : State) (i : Instr) : (s.accept i).result1 = s.result1 := rfl
@[simp] theorem State.accept_result2 (s : State) (i : Instr) : (s.accept i).result2 = s.result2 := rfl
@[simp] theorem State.accept_result3 (s : State) (i : Instr) : (s.accept i).result3 = s.result3 := rfl
@[simp] theorem State.accept_ks (s : State) (i : Instr) : (s.accept i).ks = s.ks := rfl
@[simp] theorem State.accept_pending (s : State) (i : Instr) : (s.accept i).pending = some ⟨i, s.snapshot⟩ := rfl
@[simp] theorem State.accept_c (s : State) (i : Instr) : (s.accept i).c = Config.freeWord s.freeCount := rfl
@[simp] theorem State.accept_d (s : State) (i : Instr) : (s.accept i).d = Config.freeWord (s.freeCount + 1) := rfl
@[simp] theorem State.accept_left (s : State) (i : Instr) :
    (s.accept i).left = Config.freeWord (s.freeCount + 2) := rfl
@[simp] theorem State.accept_right (s : State) (i : Instr) :
    (s.accept i).right = Config.freeWord (s.freeCount + 3) := rfl
@[simp] theorem State.accept_inputs (s : State) (i : Instr) : (s.accept i).inputs = s.inputs := rfl
@[simp] theorem State.accept_readData (s : State) (i : Instr) : (s.accept i).readData = s.readData := rfl
@[simp] theorem State.accept_freeCount (s : State) (i : Instr) : (s.accept i).freeCount = s.freeCount + 9 := rfl

/-! ### withIrqEn -/

@[simp] theorem State.withIrqEn_done (s : State) (v : Word) : (s.withIrqEn v).done = s.done := rfl
@[simp] theorem State.withIrqEn_empty (s : State) (v : Word) : (s.withIrqEn v).empty = s.empty := rfl
@[simp] theorem State.withIrqEn_err (s : State) (v : Word) : (s.withIrqEn v).err = s.err := rfl
@[simp] theorem State.withIrqEn_doneIe (s : State) (v : Word) : (s.withIrqEn v).doneIe = v.getLsbD 0 := rfl
@[simp] theorem State.withIrqEn_errIe (s : State) (v : Word) : (s.withIrqEn v).errIe = v.getLsbD 1 := rfl
@[simp] theorem State.withIrqEn_secretLen (s : State) (v : Word) : (s.withIrqEn v).secretLen = s.secretLen := rfl
@[simp] theorem State.withIrqEn_secret0 (s : State) (v : Word) : (s.withIrqEn v).secret0 = s.secret0 := rfl
@[simp] theorem State.withIrqEn_secret1 (s : State) (v : Word) : (s.withIrqEn v).secret1 = s.secret1 := rfl
@[simp] theorem State.withIrqEn_salt (s : State) (v : Word) : (s.withIrqEn v).salt = s.salt := rfl
@[simp] theorem State.withIrqEn_saltEff (s : State) (v : Word) : (s.withIrqEn v).saltEff = s.saltEff := rfl
@[simp] theorem State.withIrqEn_eswap0 (s : State) (v : Word) : (s.withIrqEn v).eswap0 = s.eswap0 := rfl
@[simp] theorem State.withIrqEn_eswap1 (s : State) (v : Word) : (s.withIrqEn v).eswap1 = s.eswap1 := rfl
@[simp] theorem State.withIrqEn_out0 (s : State) (v : Word) : (s.withIrqEn v).out0 = s.out0 := rfl
@[simp] theorem State.withIrqEn_out1 (s : State) (v : Word) : (s.withIrqEn v).out1 = s.out1 := rfl
@[simp] theorem State.withIrqEn_resultLen (s : State) (v : Word) : (s.withIrqEn v).resultLen = s.resultLen := rfl
@[simp] theorem State.withIrqEn_errCause (s : State) (v : Word) : (s.withIrqEn v).errCause = s.errCause := rfl
@[simp] theorem State.withIrqEn_errWord (s : State) (v : Word) : (s.withIrqEn v).errWord = s.errWord := rfl
@[simp] theorem State.withIrqEn_result0 (s : State) (v : Word) : (s.withIrqEn v).result0 = s.result0 := rfl
@[simp] theorem State.withIrqEn_result1 (s : State) (v : Word) : (s.withIrqEn v).result1 = s.result1 := rfl
@[simp] theorem State.withIrqEn_result2 (s : State) (v : Word) : (s.withIrqEn v).result2 = s.result2 := rfl
@[simp] theorem State.withIrqEn_result3 (s : State) (v : Word) : (s.withIrqEn v).result3 = s.result3 := rfl
@[simp] theorem State.withIrqEn_ks (s : State) (v : Word) : (s.withIrqEn v).ks = s.ks := rfl
@[simp] theorem State.withIrqEn_pending (s : State) (v : Word) : (s.withIrqEn v).pending = s.pending := rfl
@[simp] theorem State.withIrqEn_c (s : State) (v : Word) : (s.withIrqEn v).c = s.c := rfl
@[simp] theorem State.withIrqEn_d (s : State) (v : Word) : (s.withIrqEn v).d = s.d := rfl
@[simp] theorem State.withIrqEn_left (s : State) (v : Word) : (s.withIrqEn v).left = s.left := rfl
@[simp] theorem State.withIrqEn_right (s : State) (v : Word) : (s.withIrqEn v).right = s.right := rfl
@[simp] theorem State.withIrqEn_pos (s : State) (v : Word) : (s.withIrqEn v).pos = s.pos := rfl
@[simp] theorem State.withIrqEn_inputs (s : State) (v : Word) : (s.withIrqEn v).inputs = s.inputs := rfl
@[simp] theorem State.withIrqEn_readData (s : State) (v : Word) : (s.withIrqEn v).readData = s.readData := rfl
@[simp] theorem State.withIrqEn_freeCount (s : State) (v : Word) : (s.withIrqEn v).freeCount = s.freeCount := rfl

/-! ### withSecretLen -/

@[simp] theorem State.withSecretLen_done (s : State) (v : Word) : (s.withSecretLen v).done = s.done := rfl
@[simp] theorem State.withSecretLen_empty (s : State) (v : Word) : (s.withSecretLen v).empty = s.empty := rfl
@[simp] theorem State.withSecretLen_err (s : State) (v : Word) : (s.withSecretLen v).err = s.err := rfl
@[simp] theorem State.withSecretLen_doneIe (s : State) (v : Word) : (s.withSecretLen v).doneIe = s.doneIe := rfl
@[simp] theorem State.withSecretLen_errIe (s : State) (v : Word) : (s.withSecretLen v).errIe = s.errIe := rfl
@[simp] theorem State.withSecretLen_secretLen (s : State) (v : Word) :
    (s.withSecretLen v).secretLen = v.setWidth 8 := rfl
@[simp] theorem State.withSecretLen_secret0 (s : State) (v : Word) : (s.withSecretLen v).secret0 = s.secret0 := rfl
@[simp] theorem State.withSecretLen_secret1 (s : State) (v : Word) : (s.withSecretLen v).secret1 = s.secret1 := rfl
@[simp] theorem State.withSecretLen_salt (s : State) (v : Word) : (s.withSecretLen v).salt = s.salt := rfl
@[simp] theorem State.withSecretLen_saltEff (s : State) (v : Word) : (s.withSecretLen v).saltEff = s.saltEff := rfl
@[simp] theorem State.withSecretLen_eswap0 (s : State) (v : Word) : (s.withSecretLen v).eswap0 = s.eswap0 := rfl
@[simp] theorem State.withSecretLen_eswap1 (s : State) (v : Word) : (s.withSecretLen v).eswap1 = s.eswap1 := rfl
@[simp] theorem State.withSecretLen_out0 (s : State) (v : Word) : (s.withSecretLen v).out0 = s.out0 := rfl
@[simp] theorem State.withSecretLen_out1 (s : State) (v : Word) : (s.withSecretLen v).out1 = s.out1 := rfl
@[simp] theorem State.withSecretLen_resultLen (s : State) (v : Word) :
    (s.withSecretLen v).resultLen = s.resultLen := rfl
@[simp] theorem State.withSecretLen_errCause (s : State) (v : Word) : (s.withSecretLen v).errCause = s.errCause := rfl
@[simp] theorem State.withSecretLen_errWord (s : State) (v : Word) : (s.withSecretLen v).errWord = s.errWord := rfl
@[simp] theorem State.withSecretLen_result0 (s : State) (v : Word) : (s.withSecretLen v).result0 = s.result0 := rfl
@[simp] theorem State.withSecretLen_result1 (s : State) (v : Word) : (s.withSecretLen v).result1 = s.result1 := rfl
@[simp] theorem State.withSecretLen_result2 (s : State) (v : Word) : (s.withSecretLen v).result2 = s.result2 := rfl
@[simp] theorem State.withSecretLen_result3 (s : State) (v : Word) : (s.withSecretLen v).result3 = s.result3 := rfl
@[simp] theorem State.withSecretLen_ks (s : State) (v : Word) : (s.withSecretLen v).ks = s.ks := rfl
@[simp] theorem State.withSecretLen_pending (s : State) (v : Word) : (s.withSecretLen v).pending = s.pending := rfl
@[simp] theorem State.withSecretLen_c (s : State) (v : Word) : (s.withSecretLen v).c = s.c := rfl
@[simp] theorem State.withSecretLen_d (s : State) (v : Word) : (s.withSecretLen v).d = s.d := rfl
@[simp] theorem State.withSecretLen_left (s : State) (v : Word) : (s.withSecretLen v).left = s.left := rfl
@[simp] theorem State.withSecretLen_right (s : State) (v : Word) : (s.withSecretLen v).right = s.right := rfl
@[simp] theorem State.withSecretLen_pos (s : State) (v : Word) : (s.withSecretLen v).pos = s.pos := rfl
@[simp] theorem State.withSecretLen_inputs (s : State) (v : Word) : (s.withSecretLen v).inputs = s.inputs := rfl
@[simp] theorem State.withSecretLen_readData (s : State) (v : Word) : (s.withSecretLen v).readData = s.readData := rfl
@[simp] theorem State.withSecretLen_freeCount (s : State) (v : Word) :
    (s.withSecretLen v).freeCount = s.freeCount := rfl

/-! ### withSecret0 -/

@[simp] theorem State.withSecret0_done (s : State) (v : Word) : (s.withSecret0 v).done = s.done := rfl
@[simp] theorem State.withSecret0_empty (s : State) (v : Word) : (s.withSecret0 v).empty = s.empty := rfl
@[simp] theorem State.withSecret0_err (s : State) (v : Word) : (s.withSecret0 v).err = s.err := rfl
@[simp] theorem State.withSecret0_doneIe (s : State) (v : Word) : (s.withSecret0 v).doneIe = s.doneIe := rfl
@[simp] theorem State.withSecret0_errIe (s : State) (v : Word) : (s.withSecret0 v).errIe = s.errIe := rfl
@[simp] theorem State.withSecret0_secretLen (s : State) (v : Word) : (s.withSecret0 v).secretLen = s.secretLen := rfl
@[simp] theorem State.withSecret0_secret0 (s : State) (v : Word) : (s.withSecret0 v).secret0 = v := rfl
@[simp] theorem State.withSecret0_secret1 (s : State) (v : Word) : (s.withSecret0 v).secret1 = s.secret1 := rfl
@[simp] theorem State.withSecret0_salt (s : State) (v : Word) : (s.withSecret0 v).salt = s.salt := rfl
@[simp] theorem State.withSecret0_saltEff (s : State) (v : Word) : (s.withSecret0 v).saltEff = s.saltEff := rfl
@[simp] theorem State.withSecret0_eswap0 (s : State) (v : Word) : (s.withSecret0 v).eswap0 = s.eswap0 := rfl
@[simp] theorem State.withSecret0_eswap1 (s : State) (v : Word) : (s.withSecret0 v).eswap1 = s.eswap1 := rfl
@[simp] theorem State.withSecret0_out0 (s : State) (v : Word) : (s.withSecret0 v).out0 = s.out0 := rfl
@[simp] theorem State.withSecret0_out1 (s : State) (v : Word) : (s.withSecret0 v).out1 = s.out1 := rfl
@[simp] theorem State.withSecret0_resultLen (s : State) (v : Word) : (s.withSecret0 v).resultLen = s.resultLen := rfl
@[simp] theorem State.withSecret0_errCause (s : State) (v : Word) : (s.withSecret0 v).errCause = s.errCause := rfl
@[simp] theorem State.withSecret0_errWord (s : State) (v : Word) : (s.withSecret0 v).errWord = s.errWord := rfl
@[simp] theorem State.withSecret0_result0 (s : State) (v : Word) : (s.withSecret0 v).result0 = s.result0 := rfl
@[simp] theorem State.withSecret0_result1 (s : State) (v : Word) : (s.withSecret0 v).result1 = s.result1 := rfl
@[simp] theorem State.withSecret0_result2 (s : State) (v : Word) : (s.withSecret0 v).result2 = s.result2 := rfl
@[simp] theorem State.withSecret0_result3 (s : State) (v : Word) : (s.withSecret0 v).result3 = s.result3 := rfl
@[simp] theorem State.withSecret0_ks (s : State) (v : Word) : (s.withSecret0 v).ks = s.ks := rfl
@[simp] theorem State.withSecret0_pending (s : State) (v : Word) : (s.withSecret0 v).pending = s.pending := rfl
@[simp] theorem State.withSecret0_c (s : State) (v : Word) : (s.withSecret0 v).c = s.c := rfl
@[simp] theorem State.withSecret0_d (s : State) (v : Word) : (s.withSecret0 v).d = s.d := rfl
@[simp] theorem State.withSecret0_left (s : State) (v : Word) : (s.withSecret0 v).left = s.left := rfl
@[simp] theorem State.withSecret0_right (s : State) (v : Word) : (s.withSecret0 v).right = s.right := rfl
@[simp] theorem State.withSecret0_pos (s : State) (v : Word) : (s.withSecret0 v).pos = s.pos := rfl
@[simp] theorem State.withSecret0_inputs (s : State) (v : Word) : (s.withSecret0 v).inputs = s.inputs := rfl
@[simp] theorem State.withSecret0_readData (s : State) (v : Word) : (s.withSecret0 v).readData = s.readData := rfl
@[simp] theorem State.withSecret0_freeCount (s : State) (v : Word) : (s.withSecret0 v).freeCount = s.freeCount := rfl

/-! ### withSecret1 -/

@[simp] theorem State.withSecret1_done (s : State) (v : Word) : (s.withSecret1 v).done = s.done := rfl
@[simp] theorem State.withSecret1_empty (s : State) (v : Word) : (s.withSecret1 v).empty = s.empty := rfl
@[simp] theorem State.withSecret1_err (s : State) (v : Word) : (s.withSecret1 v).err = s.err := rfl
@[simp] theorem State.withSecret1_doneIe (s : State) (v : Word) : (s.withSecret1 v).doneIe = s.doneIe := rfl
@[simp] theorem State.withSecret1_errIe (s : State) (v : Word) : (s.withSecret1 v).errIe = s.errIe := rfl
@[simp] theorem State.withSecret1_secretLen (s : State) (v : Word) : (s.withSecret1 v).secretLen = s.secretLen := rfl
@[simp] theorem State.withSecret1_secret0 (s : State) (v : Word) : (s.withSecret1 v).secret0 = s.secret0 := rfl
@[simp] theorem State.withSecret1_secret1 (s : State) (v : Word) : (s.withSecret1 v).secret1 = v := rfl
@[simp] theorem State.withSecret1_salt (s : State) (v : Word) : (s.withSecret1 v).salt = s.salt := rfl
@[simp] theorem State.withSecret1_saltEff (s : State) (v : Word) : (s.withSecret1 v).saltEff = s.saltEff := rfl
@[simp] theorem State.withSecret1_eswap0 (s : State) (v : Word) : (s.withSecret1 v).eswap0 = s.eswap0 := rfl
@[simp] theorem State.withSecret1_eswap1 (s : State) (v : Word) : (s.withSecret1 v).eswap1 = s.eswap1 := rfl
@[simp] theorem State.withSecret1_out0 (s : State) (v : Word) : (s.withSecret1 v).out0 = s.out0 := rfl
@[simp] theorem State.withSecret1_out1 (s : State) (v : Word) : (s.withSecret1 v).out1 = s.out1 := rfl
@[simp] theorem State.withSecret1_resultLen (s : State) (v : Word) : (s.withSecret1 v).resultLen = s.resultLen := rfl
@[simp] theorem State.withSecret1_errCause (s : State) (v : Word) : (s.withSecret1 v).errCause = s.errCause := rfl
@[simp] theorem State.withSecret1_errWord (s : State) (v : Word) : (s.withSecret1 v).errWord = s.errWord := rfl
@[simp] theorem State.withSecret1_result0 (s : State) (v : Word) : (s.withSecret1 v).result0 = s.result0 := rfl
@[simp] theorem State.withSecret1_result1 (s : State) (v : Word) : (s.withSecret1 v).result1 = s.result1 := rfl
@[simp] theorem State.withSecret1_result2 (s : State) (v : Word) : (s.withSecret1 v).result2 = s.result2 := rfl
@[simp] theorem State.withSecret1_result3 (s : State) (v : Word) : (s.withSecret1 v).result3 = s.result3 := rfl
@[simp] theorem State.withSecret1_ks (s : State) (v : Word) : (s.withSecret1 v).ks = s.ks := rfl
@[simp] theorem State.withSecret1_pending (s : State) (v : Word) : (s.withSecret1 v).pending = s.pending := rfl
@[simp] theorem State.withSecret1_c (s : State) (v : Word) : (s.withSecret1 v).c = s.c := rfl
@[simp] theorem State.withSecret1_d (s : State) (v : Word) : (s.withSecret1 v).d = s.d := rfl
@[simp] theorem State.withSecret1_left (s : State) (v : Word) : (s.withSecret1 v).left = s.left := rfl
@[simp] theorem State.withSecret1_right (s : State) (v : Word) : (s.withSecret1 v).right = s.right := rfl
@[simp] theorem State.withSecret1_pos (s : State) (v : Word) : (s.withSecret1 v).pos = s.pos := rfl
@[simp] theorem State.withSecret1_inputs (s : State) (v : Word) : (s.withSecret1 v).inputs = s.inputs := rfl
@[simp] theorem State.withSecret1_readData (s : State) (v : Word) : (s.withSecret1 v).readData = s.readData := rfl
@[simp] theorem State.withSecret1_freeCount (s : State) (v : Word) : (s.withSecret1 v).freeCount = s.freeCount := rfl

/-! ### withSalt -/

@[simp] theorem State.withSalt_done (s : State) (v : Word) : (s.withSalt v).done = s.done := rfl
@[simp] theorem State.withSalt_empty (s : State) (v : Word) : (s.withSalt v).empty = s.empty := rfl
@[simp] theorem State.withSalt_err (s : State) (v : Word) : (s.withSalt v).err = s.err := rfl
@[simp] theorem State.withSalt_doneIe (s : State) (v : Word) : (s.withSalt v).doneIe = s.doneIe := rfl
@[simp] theorem State.withSalt_errIe (s : State) (v : Word) : (s.withSalt v).errIe = s.errIe := rfl
@[simp] theorem State.withSalt_secretLen (s : State) (v : Word) : (s.withSalt v).secretLen = s.secretLen := rfl
@[simp] theorem State.withSalt_secret0 (s : State) (v : Word) : (s.withSalt v).secret0 = s.secret0 := rfl
@[simp] theorem State.withSalt_secret1 (s : State) (v : Word) : (s.withSalt v).secret1 = s.secret1 := rfl
@[simp] theorem State.withSalt_salt (s : State) (v : Word) : (s.withSalt v).salt = v.setWidth 18 := rfl
@[simp] theorem State.withSalt_saltEff (s : State) (v : Word) : (s.withSalt v).saltEff = s.saltEff := rfl
@[simp] theorem State.withSalt_eswap0 (s : State) (v : Word) : (s.withSalt v).eswap0 = s.eswap0 := rfl
@[simp] theorem State.withSalt_eswap1 (s : State) (v : Word) : (s.withSalt v).eswap1 = s.eswap1 := rfl
@[simp] theorem State.withSalt_out0 (s : State) (v : Word) : (s.withSalt v).out0 = s.out0 := rfl
@[simp] theorem State.withSalt_out1 (s : State) (v : Word) : (s.withSalt v).out1 = s.out1 := rfl
@[simp] theorem State.withSalt_resultLen (s : State) (v : Word) : (s.withSalt v).resultLen = s.resultLen := rfl
@[simp] theorem State.withSalt_errCause (s : State) (v : Word) : (s.withSalt v).errCause = s.errCause := rfl
@[simp] theorem State.withSalt_errWord (s : State) (v : Word) : (s.withSalt v).errWord = s.errWord := rfl
@[simp] theorem State.withSalt_result0 (s : State) (v : Word) : (s.withSalt v).result0 = s.result0 := rfl
@[simp] theorem State.withSalt_result1 (s : State) (v : Word) : (s.withSalt v).result1 = s.result1 := rfl
@[simp] theorem State.withSalt_result2 (s : State) (v : Word) : (s.withSalt v).result2 = s.result2 := rfl
@[simp] theorem State.withSalt_result3 (s : State) (v : Word) : (s.withSalt v).result3 = s.result3 := rfl
@[simp] theorem State.withSalt_ks (s : State) (v : Word) : (s.withSalt v).ks = s.ks := rfl
@[simp] theorem State.withSalt_pending (s : State) (v : Word) : (s.withSalt v).pending = s.pending := rfl
@[simp] theorem State.withSalt_c (s : State) (v : Word) : (s.withSalt v).c = s.c := rfl
@[simp] theorem State.withSalt_d (s : State) (v : Word) : (s.withSalt v).d = s.d := rfl
@[simp] theorem State.withSalt_left (s : State) (v : Word) : (s.withSalt v).left = s.left := rfl
@[simp] theorem State.withSalt_right (s : State) (v : Word) : (s.withSalt v).right = s.right := rfl
@[simp] theorem State.withSalt_pos (s : State) (v : Word) : (s.withSalt v).pos = s.pos := rfl
@[simp] theorem State.withSalt_inputs (s : State) (v : Word) : (s.withSalt v).inputs = s.inputs := rfl
@[simp] theorem State.withSalt_readData (s : State) (v : Word) : (s.withSalt v).readData = s.readData := rfl
@[simp] theorem State.withSalt_freeCount (s : State) (v : Word) : (s.withSalt v).freeCount = s.freeCount := rfl

/-! ### latch -/

@[simp] theorem State.latch_done (s : State) (v : Word) : (s.latch v).done = s.done := rfl
@[simp] theorem State.latch_empty (s : State) (v : Word) : (s.latch v).empty = s.empty := rfl
@[simp] theorem State.latch_err (s : State) (v : Word) : (s.latch v).err = s.err := rfl
@[simp] theorem State.latch_doneIe (s : State) (v : Word) : (s.latch v).doneIe = s.doneIe := rfl
@[simp] theorem State.latch_errIe (s : State) (v : Word) : (s.latch v).errIe = s.errIe := rfl
@[simp] theorem State.latch_secretLen (s : State) (v : Word) : (s.latch v).secretLen = s.secretLen := rfl
@[simp] theorem State.latch_secret0 (s : State) (v : Word) : (s.latch v).secret0 = s.secret0 := rfl
@[simp] theorem State.latch_secret1 (s : State) (v : Word) : (s.latch v).secret1 = s.secret1 := rfl
@[simp] theorem State.latch_salt (s : State) (v : Word) : (s.latch v).salt = s.salt := rfl
@[simp] theorem State.latch_saltEff (s : State) (v : Word) : (s.latch v).saltEff = s.saltEff := rfl
@[simp] theorem State.latch_eswap0 (s : State) (v : Word) : (s.latch v).eswap0 = s.eswap0 := rfl
@[simp] theorem State.latch_eswap1 (s : State) (v : Word) : (s.latch v).eswap1 = s.eswap1 := rfl
@[simp] theorem State.latch_out0 (s : State) (v : Word) : (s.latch v).out0 = s.out0 := rfl
@[simp] theorem State.latch_out1 (s : State) (v : Word) : (s.latch v).out1 = s.out1 := rfl
@[simp] theorem State.latch_resultLen (s : State) (v : Word) : (s.latch v).resultLen = s.resultLen := rfl
@[simp] theorem State.latch_errCause (s : State) (v : Word) : (s.latch v).errCause = s.errCause := rfl
@[simp] theorem State.latch_errWord (s : State) (v : Word) : (s.latch v).errWord = s.errWord := rfl
@[simp] theorem State.latch_result0 (s : State) (v : Word) : (s.latch v).result0 = s.result0 := rfl
@[simp] theorem State.latch_result1 (s : State) (v : Word) : (s.latch v).result1 = s.result1 := rfl
@[simp] theorem State.latch_result2 (s : State) (v : Word) : (s.latch v).result2 = s.result2 := rfl
@[simp] theorem State.latch_result3 (s : State) (v : Word) : (s.latch v).result3 = s.result3 := rfl
@[simp] theorem State.latch_ks (s : State) (v : Word) : (s.latch v).ks = s.ks := rfl
@[simp] theorem State.latch_pending (s : State) (v : Word) : (s.latch v).pending = s.pending := rfl
@[simp] theorem State.latch_c (s : State) (v : Word) : (s.latch v).c = s.c := rfl
@[simp] theorem State.latch_d (s : State) (v : Word) : (s.latch v).d = s.d := rfl
@[simp] theorem State.latch_left (s : State) (v : Word) : (s.latch v).left = s.left := rfl
@[simp] theorem State.latch_right (s : State) (v : Word) : (s.latch v).right = s.right := rfl
@[simp] theorem State.latch_pos (s : State) (v : Word) : (s.latch v).pos = s.pos := rfl
@[simp] theorem State.latch_inputs (s : State) (v : Word) : (s.latch v).inputs = s.inputs := rfl
@[simp] theorem State.latch_readData (s : State) (v : Word) : (s.latch v).readData = some v := rfl
@[simp] theorem State.latch_freeCount (s : State) (v : Word) : (s.latch v).freeCount = s.freeCount := rfl

/-! ### withInputs -/

@[simp] theorem State.withInputs_done (s : State) (l : List Event) : (s.withInputs l).done = s.done := rfl
@[simp] theorem State.withInputs_empty (s : State) (l : List Event) : (s.withInputs l).empty = s.empty := rfl
@[simp] theorem State.withInputs_err (s : State) (l : List Event) : (s.withInputs l).err = s.err := rfl
@[simp] theorem State.withInputs_doneIe (s : State) (l : List Event) : (s.withInputs l).doneIe = s.doneIe := rfl
@[simp] theorem State.withInputs_errIe (s : State) (l : List Event) : (s.withInputs l).errIe = s.errIe := rfl
@[simp] theorem State.withInputs_secretLen (s : State) (l : List Event) :
    (s.withInputs l).secretLen = s.secretLen := rfl
@[simp] theorem State.withInputs_secret0 (s : State) (l : List Event) : (s.withInputs l).secret0 = s.secret0 := rfl
@[simp] theorem State.withInputs_secret1 (s : State) (l : List Event) : (s.withInputs l).secret1 = s.secret1 := rfl
@[simp] theorem State.withInputs_salt (s : State) (l : List Event) : (s.withInputs l).salt = s.salt := rfl
@[simp] theorem State.withInputs_saltEff (s : State) (l : List Event) : (s.withInputs l).saltEff = s.saltEff := rfl
@[simp] theorem State.withInputs_eswap0 (s : State) (l : List Event) : (s.withInputs l).eswap0 = s.eswap0 := rfl
@[simp] theorem State.withInputs_eswap1 (s : State) (l : List Event) : (s.withInputs l).eswap1 = s.eswap1 := rfl
@[simp] theorem State.withInputs_out0 (s : State) (l : List Event) : (s.withInputs l).out0 = s.out0 := rfl
@[simp] theorem State.withInputs_out1 (s : State) (l : List Event) : (s.withInputs l).out1 = s.out1 := rfl
@[simp] theorem State.withInputs_resultLen (s : State) (l : List Event) :
    (s.withInputs l).resultLen = s.resultLen := rfl
@[simp] theorem State.withInputs_errCause (s : State) (l : List Event) : (s.withInputs l).errCause = s.errCause := rfl
@[simp] theorem State.withInputs_errWord (s : State) (l : List Event) : (s.withInputs l).errWord = s.errWord := rfl
@[simp] theorem State.withInputs_result0 (s : State) (l : List Event) : (s.withInputs l).result0 = s.result0 := rfl
@[simp] theorem State.withInputs_result1 (s : State) (l : List Event) : (s.withInputs l).result1 = s.result1 := rfl
@[simp] theorem State.withInputs_result2 (s : State) (l : List Event) : (s.withInputs l).result2 = s.result2 := rfl
@[simp] theorem State.withInputs_result3 (s : State) (l : List Event) : (s.withInputs l).result3 = s.result3 := rfl
@[simp] theorem State.withInputs_ks (s : State) (l : List Event) : (s.withInputs l).ks = s.ks := rfl
@[simp] theorem State.withInputs_pending (s : State) (l : List Event) : (s.withInputs l).pending = s.pending := rfl
@[simp] theorem State.withInputs_c (s : State) (l : List Event) : (s.withInputs l).c = s.c := rfl
@[simp] theorem State.withInputs_d (s : State) (l : List Event) : (s.withInputs l).d = s.d := rfl
@[simp] theorem State.withInputs_left (s : State) (l : List Event) : (s.withInputs l).left = s.left := rfl
@[simp] theorem State.withInputs_right (s : State) (l : List Event) : (s.withInputs l).right = s.right := rfl
@[simp] theorem State.withInputs_pos (s : State) (l : List Event) : (s.withInputs l).pos = s.pos := rfl
@[simp] theorem State.withInputs_inputs (s : State) (l : List Event) : (s.withInputs l).inputs = l := rfl
@[simp] theorem State.withInputs_readData (s : State) (l : List Event) : (s.withInputs l).readData = s.readData := rfl
@[simp] theorem State.withInputs_freeCount (s : State) (l : List Event) :
    (s.withInputs l).freeCount = s.freeCount := rfl

/-! ### resetStep -/

@[simp] theorem State.resetStep_done (s : State) : (s.resetStep).done = false := rfl
@[simp] theorem State.resetStep_empty (s : State) : (s.resetStep).empty = false := rfl
@[simp] theorem State.resetStep_err (s : State) : (s.resetStep).err = false := rfl
@[simp] theorem State.resetStep_doneIe (s : State) : (s.resetStep).doneIe = false := rfl
@[simp] theorem State.resetStep_errIe (s : State) : (s.resetStep).errIe = false := rfl
@[simp] theorem State.resetStep_secretLen (s : State) : (s.resetStep).secretLen = 0 := rfl
@[simp] theorem State.resetStep_secret0 (s : State) : (s.resetStep).secret0 = 0 := rfl
@[simp] theorem State.resetStep_secret1 (s : State) : (s.resetStep).secret1 = 0 := rfl
@[simp] theorem State.resetStep_salt (s : State) : (s.resetStep).salt = 0 := rfl
@[simp] theorem State.resetStep_saltEff (s : State) : (s.resetStep).saltEff = 0 := rfl
@[simp] theorem State.resetStep_eswap0 (s : State) : (s.resetStep).eswap0 = 0 := rfl
@[simp] theorem State.resetStep_eswap1 (s : State) : (s.resetStep).eswap1 = 0 := rfl
@[simp] theorem State.resetStep_out0 (s : State) : (s.resetStep).out0 = 0 := rfl
@[simp] theorem State.resetStep_out1 (s : State) : (s.resetStep).out1 = 0 := rfl
@[simp] theorem State.resetStep_resultLen (s : State) : (s.resetStep).resultLen = 0 := rfl
@[simp] theorem State.resetStep_errCause (s : State) : (s.resetStep).errCause = 0 := rfl
@[simp] theorem State.resetStep_errWord (s : State) : (s.resetStep).errWord = 0 := rfl
@[simp] theorem State.resetStep_result0 (s : State) : (s.resetStep).result0 = 0 := rfl
@[simp] theorem State.resetStep_result1 (s : State) : (s.resetStep).result1 = 0 := rfl
@[simp] theorem State.resetStep_result2 (s : State) : (s.resetStep).result2 = 0 := rfl
@[simp] theorem State.resetStep_result3 (s : State) : (s.resetStep).result3 = 0 := rfl
@[simp] theorem State.resetStep_ks (s : State) : (s.resetStep).ks = Vector.replicate 32 0 := rfl
@[simp] theorem State.resetStep_pending (s : State) : (s.resetStep).pending = none := rfl
@[simp] theorem State.resetStep_c (s : State) : (s.resetStep).c = Config.freeWord s.freeCount := rfl
@[simp] theorem State.resetStep_d (s : State) : (s.resetStep).d = Config.freeWord (s.freeCount + 1) := rfl
@[simp] theorem State.resetStep_left (s : State) : (s.resetStep).left = Config.freeWord (s.freeCount + 2) := rfl
@[simp] theorem State.resetStep_right (s : State) : (s.resetStep).right = Config.freeWord (s.freeCount + 3) := rfl
@[simp] theorem State.resetStep_inputs (s : State) : (s.resetStep).inputs = s.inputs := rfl
@[simp] theorem State.resetStep_readData (s : State) : (s.resetStep).readData = s.readData := rfl
@[simp] theorem State.resetStep_freeCount (s : State) : (s.resetStep).freeCount = s.freeCount + 9 := rfl

/-! ### scrub -/

@[simp] theorem State.scrub_done (s : State) : (s.scrub).done = s.done := rfl
@[simp] theorem State.scrub_empty (s : State) : (s.scrub).empty = false := rfl
@[simp] theorem State.scrub_err (s : State) : (s.scrub).err = false := rfl
@[simp] theorem State.scrub_doneIe (s : State) : (s.scrub).doneIe = s.doneIe := rfl
@[simp] theorem State.scrub_errIe (s : State) : (s.scrub).errIe = s.errIe := rfl
@[simp] theorem State.scrub_secretLen (s : State) : (s.scrub).secretLen = 0 := rfl
@[simp] theorem State.scrub_secret0 (s : State) : (s.scrub).secret0 = 0 := rfl
@[simp] theorem State.scrub_secret1 (s : State) : (s.scrub).secret1 = 0 := rfl
@[simp] theorem State.scrub_salt (s : State) : (s.scrub).salt = 0 := rfl
@[simp] theorem State.scrub_saltEff (s : State) : (s.scrub).saltEff = 0 := rfl
@[simp] theorem State.scrub_eswap0 (s : State) : (s.scrub).eswap0 = 0 := rfl
@[simp] theorem State.scrub_eswap1 (s : State) : (s.scrub).eswap1 = 0 := rfl
@[simp] theorem State.scrub_out0 (s : State) : (s.scrub).out0 = 0 := rfl
@[simp] theorem State.scrub_out1 (s : State) : (s.scrub).out1 = 0 := rfl
@[simp] theorem State.scrub_resultLen (s : State) : (s.scrub).resultLen = 0 := rfl
@[simp] theorem State.scrub_errCause (s : State) : (s.scrub).errCause = 0 := rfl
@[simp] theorem State.scrub_errWord (s : State) : (s.scrub).errWord = 0 := rfl
@[simp] theorem State.scrub_result0 (s : State) : (s.scrub).result0 = 0 := rfl
@[simp] theorem State.scrub_result1 (s : State) : (s.scrub).result1 = 0 := rfl
@[simp] theorem State.scrub_result2 (s : State) : (s.scrub).result2 = 0 := rfl
@[simp] theorem State.scrub_result3 (s : State) : (s.scrub).result3 = 0 := rfl
@[simp] theorem State.scrub_ks (s : State) : (s.scrub).ks = Vector.replicate 32 0 := rfl
@[simp] theorem State.scrub_pending (s : State) : (s.scrub).pending = s.pending := rfl
@[simp] theorem State.scrub_c (s : State) : (s.scrub).c = s.c := rfl
@[simp] theorem State.scrub_d (s : State) : (s.scrub).d = s.d := rfl
@[simp] theorem State.scrub_left (s : State) : (s.scrub).left = s.left := rfl
@[simp] theorem State.scrub_right (s : State) : (s.scrub).right = s.right := rfl
@[simp] theorem State.scrub_pos (s : State) : (s.scrub).pos = s.pos := rfl
@[simp] theorem State.scrub_inputs (s : State) : (s.scrub).inputs = s.inputs := rfl
@[simp] theorem State.scrub_readData (s : State) : (s.scrub).readData = s.readData := rfl
@[simp] theorem State.scrub_freeCount (s : State) : (s.scrub).freeCount = s.freeCount := rfl

end Sys2Proof.Machine
end

