-- ==== Sys2Proof/Laws/Ops.lean ====
section
/-! SUPPORT. What each shared operation can do, said once: the register window, accesses, CommandError, acceptance, the
commit and the sequencer's hidden progress. -/

namespace Sys2Proof.Machine

/-! ### The hidden registers are invisible -/

@[simp] theorem readReg_hideWork (s : State) (r : Reg) : s.hideWork.readReg r = s.readReg r := by cases r <;> rfl

@[simp] theorem snapshot_hideWork (s : State) : s.hideWork.snapshot = s.snapshot := rfl

@[simp] theorem busy_hideWork (s : State) : s.hideWork.busy = s.busy := rfl

@[simp] theorem irq_hideWork (s : State) : s.hideWork.irq = s.irq := rfl

/-- A turn in flight either leaves the state or replaces its hidden registers. -/
theorem workInFlight_cases (s : State) : s.workInFlight = s ∨ (s.busy = true ∧ s.workInFlight = s.hideWork) := by
  unfold State.workInFlight
  by_cases h : s.busy <;> simp [h]

theorem workInFlight_idle {s : State} (h : s.pending = none) : s.workInFlight = s := by
  simp [State.workInFlight, State.busy, h]

@[simp] theorem readReg_workInFlight (s : State) (r : Reg) : s.workInFlight.readReg r = s.readReg r := by
  rcases workInFlight_cases s with h | ⟨-, h⟩ <;> simp [h]

@[simp] theorem pending_workInFlight (s : State) : s.workInFlight.pending = s.pending := by
  rcases workInFlight_cases s with h | ⟨-, h⟩ <;> simp [h]

@[simp] theorem inputs_workInFlight (s : State) : s.workInFlight.inputs = s.inputs := by
  rcases workInFlight_cases s with h | ⟨-, h⟩ <;> simp [h]

@[simp] theorem irq_workInFlight (s : State) : s.workInFlight.irq = s.irq := by
  rcases workInFlight_cases s with h | ⟨-, h⟩ <;> simp [h]

@[simp] theorem busy_workInFlight (s : State) : s.workInFlight.busy = s.busy := by
  rcases workInFlight_cases s with h | ⟨-, h⟩ <;> simp [h]

@[simp] theorem done_workInFlight (s : State) : s.workInFlight.done = s.done := by
  rcases workInFlight_cases s with h | ⟨-, h⟩ <;> simp [h]

@[simp] theorem empty_workInFlight (s : State) : s.workInFlight.empty = s.empty := by
  rcases workInFlight_cases s with h | ⟨-, h⟩ <;> simp [h]

@[simp] theorem err_workInFlight (s : State) : s.workInFlight.err = s.err := by
  rcases workInFlight_cases s with h | ⟨-, h⟩ <;> simp [h]

@[simp] theorem doneIe_workInFlight (s : State) : s.workInFlight.doneIe = s.doneIe := by
  rcases workInFlight_cases s with h | ⟨-, h⟩ <;> simp [h]

@[simp] theorem errIe_workInFlight (s : State) : s.workInFlight.errIe = s.errIe := by
  rcases workInFlight_cases s with h | ⟨-, h⟩ <;> simp [h]

@[simp] theorem secretLen_workInFlight (s : State) : s.workInFlight.secretLen = s.secretLen := by
  rcases workInFlight_cases s with h | ⟨-, h⟩ <;> simp [h]

@[simp] theorem secret0_workInFlight (s : State) : s.workInFlight.secret0 = s.secret0 := by
  rcases workInFlight_cases s with h | ⟨-, h⟩ <;> simp [h]

@[simp] theorem secret1_workInFlight (s : State) : s.workInFlight.secret1 = s.secret1 := by
  rcases workInFlight_cases s with h | ⟨-, h⟩ <;> simp [h]

@[simp] theorem salt_workInFlight (s : State) : s.workInFlight.salt = s.salt := by
  rcases workInFlight_cases s with h | ⟨-, h⟩ <;> simp [h]

@[simp] theorem saltEff_workInFlight (s : State) : s.workInFlight.saltEff = s.saltEff := by
  rcases workInFlight_cases s with h | ⟨-, h⟩ <;> simp [h]

@[simp] theorem eswap0_workInFlight (s : State) : s.workInFlight.eswap0 = s.eswap0 := by
  rcases workInFlight_cases s with h | ⟨-, h⟩ <;> simp [h]

@[simp] theorem eswap1_workInFlight (s : State) : s.workInFlight.eswap1 = s.eswap1 := by
  rcases workInFlight_cases s with h | ⟨-, h⟩ <;> simp [h]

@[simp] theorem out0_workInFlight (s : State) : s.workInFlight.out0 = s.out0 := by
  rcases workInFlight_cases s with h | ⟨-, h⟩ <;> simp [h]

@[simp] theorem out1_workInFlight (s : State) : s.workInFlight.out1 = s.out1 := by
  rcases workInFlight_cases s with h | ⟨-, h⟩ <;> simp [h]

@[simp] theorem resultLen_workInFlight (s : State) : s.workInFlight.resultLen = s.resultLen := by
  rcases workInFlight_cases s with h | ⟨-, h⟩ <;> simp [h]

@[simp] theorem errCause_workInFlight (s : State) : s.workInFlight.errCause = s.errCause := by
  rcases workInFlight_cases s with h | ⟨-, h⟩ <;> simp [h]

@[simp] theorem errWord_workInFlight (s : State) : s.workInFlight.errWord = s.errWord := by
  rcases workInFlight_cases s with h | ⟨-, h⟩ <;> simp [h]

@[simp] theorem result0_workInFlight (s : State) : s.workInFlight.result0 = s.result0 := by
  rcases workInFlight_cases s with h | ⟨-, h⟩ <;> simp [h]

@[simp] theorem result1_workInFlight (s : State) : s.workInFlight.result1 = s.result1 := by
  rcases workInFlight_cases s with h | ⟨-, h⟩ <;> simp [h]

@[simp] theorem result2_workInFlight (s : State) : s.workInFlight.result2 = s.result2 := by
  rcases workInFlight_cases s with h | ⟨-, h⟩ <;> simp [h]

@[simp] theorem result3_workInFlight (s : State) : s.workInFlight.result3 = s.result3 := by
  rcases workInFlight_cases s with h | ⟨-, h⟩ <;> simp [h]

@[simp] theorem ks_workInFlight (s : State) : s.workInFlight.ks = s.ks := by
  rcases workInFlight_cases s with h | ⟨-, h⟩ <;> simp [h]

@[simp] theorem readData_workInFlight (s : State) : s.workInFlight.readData = s.readData := by
  rcases workInFlight_cases s with h | ⟨-, h⟩ <;> simp [h]

@[simp] theorem snapshot_workInFlight (s : State) : s.workInFlight.snapshot = s.snapshot := by
  rcases workInFlight_cases s with h | ⟨-, h⟩ <;> simp [h]

/-! ### The model's own fields are invisible -/

@[simp] theorem readReg_withInputs (s : State) (l : List Event) (r : Reg) : (s.withInputs l).readReg r = s.readReg r := by
  cases r <;> rfl

@[simp] theorem readReg_latch (s : State) (v : Word) (r : Reg) : (s.latch v).readReg r = s.readReg r := by
  cases r <;> rfl

@[simp] theorem operands_withInputs (s : State) (l : List Event) : (s.withInputs l).operands = s.operands := rfl

@[simp] theorem snapshot_withInputs (s : State) (l : List Event) : (s.withInputs l).snapshot = s.snapshot := rfl

@[simp] theorem busy_withInputs (s : State) (l : List Event) : (s.withInputs l).busy = s.busy := rfl

/-- Putting the events that are there changes nothing. -/
@[simp] theorem withInputs_self (s : State) : s.withInputs s.inputs = s := rfl

/-! ### Frames -/

theorem SameRegsBut.rfl {ex : List Reg} {s : State} : SameRegsBut ex s s := fun _ _ => Eq.refl _

theorem SameRegsBut.trans {ex : List Reg} {s t u : State} (h : SameRegsBut ex s t) (h' : SameRegsBut ex t u) :
    SameRegsBut ex s u := fun r hr => (h' r hr).trans (h r hr)

theorem SameRegsBut.mono {ex ex' : List Reg} {s t : State} (h : SameRegsBut ex s t) (hx : ∀ r ∈ ex, r ∈ ex') :
    SameRegsBut ex' s t := fun r hr => h r fun hm => hr (hx r hm)

/-! ### The operands of a command -/

theorem operands_idle {s : State} (h : s.pending = none) : s.operands = s.snapshot := by simp [State.operands, h]

theorem operands_pending {s : State} {p : Pending} (h : s.pending = some p) : s.operands = p.snap := by
  simp [State.operands, h]

@[simp] theorem operands_accept (s : State) (i : Instr) : (s.accept i).operands = s.snapshot := rfl

/-! ### Accesses -/

/-- A register's own offset addresses it. -/
@[simp] theorem accessTarget_offset (r : Reg) : accessTarget r.offset 4 = .reg r := by
  cases r
  case reserved50 i => revert i; decide
  case ks i => revert i; decide
  all_goals rfl

/-- A defined access addresses a register, and that register's offset is the access's. -/
theorem accessTarget_of_defined {off : Int} {n : Nat} (h : accessDefined off n = true) :
    accessTarget off n = .reg (Reg.atIndex (Fin.ofNat 64 (off.toNat / 4))) := by
  simp only [accessDefined, Bool.and_eq_true, beq_iff_eq, decide_eq_true_eq] at h
  obtain ⟨⟨⟨rfl, h0⟩, h1⟩, h2⟩ := h
  simp [accessTarget, h2]
  omega

/-- An access that addresses a register is 32 bits wide, at that register's offset. -/
theorem accessTarget_eq_reg {off : Int} {n : Nat} {r : Reg} (h : accessTarget off n = .reg r) :
    n = 4 ∧ off = r.offset := by
  unfold accessTarget at h
  split at h
  · simp at h
  · split at h
    · simp at h
    · split at h
      · simp at h
      · next h1 h2 h3 =>
        have key : ∀ k : Fin 64, (Reg.atIndex k).offset = 4 * k.val := by decide
        simp only [Target.reg.injEq, Decidable.not_not, not_or, not_lt, not_le] at h h1 h2 h3
        rw [← h, key]
        simp
        omega

/-- Any other access is stuck. -/
theorem accessTarget_of_undefined {off : Int} {n : Nat} (h : accessDefined off n = false) :
    ∃ f, accessTarget off n = .stuck f := by
  unfold accessTarget
  split
  · exact ⟨_, rfl⟩
  · split
    · exact ⟨_, rfl⟩
    · split
      · exact ⟨_, rfl⟩
      · simp [accessDefined] at h
        omega

@[simp] theorem hostRead_offset (s : State) (r : Reg) :
    s.hostRead r.offset 4 = .next (s.workInFlight.latch (s.readReg r)) := by
  simp [State.hostRead]

@[simp] theorem hostWrite_offset (s : State) (r : Reg) (v : Word) :
    s.hostWrite r.offset 4 v = .next (s.workInFlight.writeReg r v) := by
  simp [State.hostWrite]

/-- The displacement of `ENGINE_BASE + off` is `off`. -/
@[simp] theorem busOffset_base (off : Nat) : busOffset (Config.engineBase + off) = (off : Int) := by
  simp [busOffset]

/-! ### CommandError -/

/-- Everything a CommandError does. -/
theorem commandError_effect (s : State) (reason : ErrReason) (v : Word) :
    CommandErrorEffect reason v s (s.commandError reason v) := by
  unfold State.commandError State.captureError
  cases h : s.err
  · refine ⟨rfl, fun _ => ⟨rfl, rfl⟩, fun h' => absurd (h.symm.trans h') (by simp), rfl, rfl, rfl, fun r hr => ?_, rfl, rfl⟩
    cases r <;> first | rfl | simp at hr
  · refine ⟨rfl, fun h' => absurd (h.symm.trans h') (by simp), fun _ => ⟨rfl, rfl⟩, rfl, rfl, rfl, fun r hr => ?_, rfl, rfl⟩
    cases r <;> first | rfl | simp at hr

@[simp] theorem done_commandError (s : State) (reason : ErrReason) (v : Word) :
    (s.commandError reason v).done = s.done := by
  unfold State.commandError State.captureError; split <;> rfl

@[simp] theorem empty_commandError (s : State) (reason : ErrReason) (v : Word) :
    (s.commandError reason v).empty = s.empty := by
  unfold State.commandError State.captureError; split <;> rfl

@[simp] theorem doneIe_commandError (s : State) (reason : ErrReason) (v : Word) :
    (s.commandError reason v).doneIe = s.doneIe := by
  unfold State.commandError State.captureError; split <;> rfl

@[simp] theorem errIe_commandError (s : State) (reason : ErrReason) (v : Word) :
    (s.commandError reason v).errIe = s.errIe := by
  unfold State.commandError State.captureError; split <;> rfl

@[simp] theorem secretLen_commandError (s : State) (reason : ErrReason) (v : Word) :
    (s.commandError reason v).secretLen = s.secretLen := by
  unfold State.commandError State.captureError; split <;> rfl

@[simp] theorem secret0_commandError (s : State) (reason : ErrReason) (v : Word) :
    (s.commandError reason v).secret0 = s.secret0 := by
  unfold State.commandError State.captureError; split <;> rfl

@[simp] theorem secret1_commandError (s : State) (reason : ErrReason) (v : Word) :
    (s.commandError reason v).secret1 = s.secret1 := by
  unfold State.commandError State.captureError; split <;> rfl

@[simp] theorem salt_commandError (s : State) (reason : ErrReason) (v : Word) :
    (s.commandError reason v).salt = s.salt := by
  unfold State.commandError State.captureError; split <;> rfl

@[simp] theorem saltEff_commandError (s : State) (reason : ErrReason) (v : Word) :
    (s.commandError reason v).saltEff = s.saltEff := by
  unfold State.commandError State.captureError; split <;> rfl

@[simp] theorem eswap0_commandError (s : State) (reason : ErrReason) (v : Word) :
    (s.commandError reason v).eswap0 = s.eswap0 := by
  unfold State.commandError State.captureError; split <;> rfl

@[simp] theorem eswap1_commandError (s : State) (reason : ErrReason) (v : Word) :
    (s.commandError reason v).eswap1 = s.eswap1 := by
  unfold State.commandError State.captureError; split <;> rfl

@[simp] theorem out0_commandError (s : State) (reason : ErrReason) (v : Word) :
    (s.commandError reason v).out0 = s.out0 := by
  unfold State.commandError State.captureError; split <;> rfl

@[simp] theorem out1_commandError (s : State) (reason : ErrReason) (v : Word) :
    (s.commandError reason v).out1 = s.out1 := by
  unfold State.commandError State.captureError; split <;> rfl

@[simp] theorem resultLen_commandError (s : State) (reason : ErrReason) (v : Word) :
    (s.commandError reason v).resultLen = s.resultLen := by
  unfold State.commandError State.captureError; split <;> rfl

@[simp] theorem result0_commandError (s : State) (reason : ErrReason) (v : Word) :
    (s.commandError reason v).result0 = s.result0 := by
  unfold State.commandError State.captureError; split <;> rfl

@[simp] theorem result1_commandError (s : State) (reason : ErrReason) (v : Word) :
    (s.commandError reason v).result1 = s.result1 := by
  unfold State.commandError State.captureError; split <;> rfl

@[simp] theorem result2_commandError (s : State) (reason : ErrReason) (v : Word) :
    (s.commandError reason v).result2 = s.result2 := by
  unfold State.commandError State.captureError; split <;> rfl

@[simp] theorem result3_commandError (s : State) (reason : ErrReason) (v : Word) :
    (s.commandError reason v).result3 = s.result3 := by
  unfold State.commandError State.captureError; split <;> rfl

@[simp] theorem ks_commandError (s : State) (reason : ErrReason) (v : Word) :
    (s.commandError reason v).ks = s.ks := by
  unfold State.commandError State.captureError; split <;> rfl

@[simp] theorem pending_commandError (s : State) (reason : ErrReason) (v : Word) :
    (s.commandError reason v).pending = s.pending := by
  unfold State.commandError State.captureError; split <;> rfl

@[simp] theorem inputs_commandError (s : State) (reason : ErrReason) (v : Word) :
    (s.commandError reason v).inputs = s.inputs := by
  unfold State.commandError State.captureError; split <;> rfl

@[simp] theorem readData_commandError (s : State) (reason : ErrReason) (v : Word) :
    (s.commandError reason v).readData = s.readData := by
  unfold State.commandError State.captureError; split <;> rfl

@[simp] theorem err_commandError (s : State) (reason : ErrReason) (v : Word) : (s.commandError reason v).err = true := rfl

/-- The capture records a first error and keeps an earlier one (10_state.md R49). -/
@[simp] theorem errCause_commandError (s : State) (reason : ErrReason) (v : Word) :
    (s.commandError reason v).errCause = if s.err then s.errCause else reason.code := by
  unfold State.commandError State.captureError; split <;> rfl

@[simp] theorem errWord_commandError (s : State) (reason : ErrReason) (v : Word) :
    (s.commandError reason v).errWord = if s.err then s.errWord else v := by
  unfold State.commandError State.captureError; split <;> rfl

/-! ### A STATUS write -/

@[simp] theorem empty_writeStatus (s : State) (v : Word) : (s.writeStatus v).empty = s.empty := by
  unfold State.writeStatus State.clearErr State.clearDone; split <;> split <;> rfl

@[simp] theorem doneIe_writeStatus (s : State) (v : Word) : (s.writeStatus v).doneIe = s.doneIe := by
  unfold State.writeStatus State.clearErr State.clearDone; split <;> split <;> rfl

@[simp] theorem errIe_writeStatus (s : State) (v : Word) : (s.writeStatus v).errIe = s.errIe := by
  unfold State.writeStatus State.clearErr State.clearDone; split <;> split <;> rfl

@[simp] theorem secretLen_writeStatus (s : State) (v : Word) : (s.writeStatus v).secretLen = s.secretLen := by
  unfold State.writeStatus State.clearErr State.clearDone; split <;> split <;> rfl

@[simp] theorem secret0_writeStatus (s : State) (v : Word) : (s.writeStatus v).secret0 = s.secret0 := by
  unfold State.writeStatus State.clearErr State.clearDone; split <;> split <;> rfl

@[simp] theorem secret1_writeStatus (s : State) (v : Word) : (s.writeStatus v).secret1 = s.secret1 := by
  unfold State.writeStatus State.clearErr State.clearDone; split <;> split <;> rfl

@[simp] theorem salt_writeStatus (s : State) (v : Word) : (s.writeStatus v).salt = s.salt := by
  unfold State.writeStatus State.clearErr State.clearDone; split <;> split <;> rfl

@[simp] theorem saltEff_writeStatus (s : State) (v : Word) : (s.writeStatus v).saltEff = s.saltEff := by
  unfold State.writeStatus State.clearErr State.clearDone; split <;> split <;> rfl

@[simp] theorem eswap0_writeStatus (s : State) (v : Word) : (s.writeStatus v).eswap0 = s.eswap0 := by
  unfold State.writeStatus State.clearErr State.clearDone; split <;> split <;> rfl

@[simp] theorem eswap1_writeStatus (s : State) (v : Word) : (s.writeStatus v).eswap1 = s.eswap1 := by
  unfold State.writeStatus State.clearErr State.clearDone; split <;> split <;> rfl

@[simp] theorem out0_writeStatus (s : State) (v : Word) : (s.writeStatus v).out0 = s.out0 := by
  unfold State.writeStatus State.clearErr State.clearDone; split <;> split <;> rfl

@[simp] theorem out1_writeStatus (s : State) (v : Word) : (s.writeStatus v).out1 = s.out1 := by
  unfold State.writeStatus State.clearErr State.clearDone; split <;> split <;> rfl

@[simp] theorem resultLen_writeStatus (s : State) (v : Word) : (s.writeStatus v).resultLen = s.resultLen := by
  unfold State.writeStatus State.clearErr State.clearDone; split <;> split <;> rfl

@[simp] theorem result0_writeStatus (s : State) (v : Word) : (s.writeStatus v).result0 = s.result0 := by
  unfold State.writeStatus State.clearErr State.clearDone; split <;> split <;> rfl

@[simp] theorem result1_writeStatus (s : State) (v : Word) : (s.writeStatus v).result1 = s.result1 := by
  unfold State.writeStatus State.clearErr State.clearDone; split <;> split <;> rfl

@[simp] theorem result2_writeStatus (s : State) (v : Word) : (s.writeStatus v).result2 = s.result2 := by
  unfold State.writeStatus State.clearErr State.clearDone; split <;> split <;> rfl

@[simp] theorem result3_writeStatus (s : State) (v : Word) : (s.writeStatus v).result3 = s.result3 := by
  unfold State.writeStatus State.clearErr State.clearDone; split <;> split <;> rfl

@[simp] theorem ks_writeStatus (s : State) (v : Word) : (s.writeStatus v).ks = s.ks := by
  unfold State.writeStatus State.clearErr State.clearDone; split <;> split <;> rfl

@[simp] theorem pending_writeStatus (s : State) (v : Word) : (s.writeStatus v).pending = s.pending := by
  unfold State.writeStatus State.clearErr State.clearDone; split <;> split <;> rfl

@[simp] theorem inputs_writeStatus (s : State) (v : Word) : (s.writeStatus v).inputs = s.inputs := by
  unfold State.writeStatus State.clearErr State.clearDone; split <;> split <;> rfl

@[simp] theorem readData_writeStatus (s : State) (v : Word) : (s.writeStatus v).readData = s.readData := by
  unfold State.writeStatus State.clearErr State.clearDone; split <;> split <;> rfl

@[simp] theorem done_writeStatus (s : State) (v : Word) : (s.writeStatus v).done = (s.done && !v.getLsbD 1) := by
  unfold State.writeStatus State.clearErr State.clearDone
  cases v.getLsbD 1 <;> cases v.getLsbD 3 <;> simp

@[simp] theorem err_writeStatus (s : State) (v : Word) : (s.writeStatus v).err = (s.err && !v.getLsbD 3) := by
  unfold State.writeStatus State.clearErr State.clearDone
  cases v.getLsbD 1 <;> cases v.getLsbD 3 <;> simp

@[simp] theorem errCause_writeStatus (s : State) (v : Word) :
    (s.writeStatus v).errCause = if v.getLsbD 3 then 0 else s.errCause := by
  unfold State.writeStatus State.clearErr State.clearDone
  cases v.getLsbD 1 <;> cases v.getLsbD 3 <;> simp

@[simp] theorem errWord_writeStatus (s : State) (v : Word) :
    (s.writeStatus v).errWord = if v.getLsbD 3 then 0 else s.errWord := by
  unfold State.writeStatus State.clearErr State.clearDone
  cases v.getLsbD 1 <;> cases v.getLsbD 3 <;> simp

/-! ### Acceptance and the commit -/

/-- Acceptance shows in no register but STATUS. -/
theorem readReg_accept (s : State) (i : Instr) : SameRegsBut [.status] s (s.accept i) := by
  intro r hr
  cases r <;> first | rfl | simp at hr

/-- The end of a commit shows in no register but STATUS. -/
theorem readReg_commit (s : State) : SameRegsBut [.status] s s.commit := by
  intro r hr
  cases r <;> first | rfl | simp at hr

@[simp] theorem busy_commit (s : State) : s.commit.busy = false := rfl

end Sys2Proof.Machine
end

