-- ==== Sys2Proof/Laws/PerInstr.lean ====
section
/-! SUPPORT. Statements for every command, one lemma per constructor. Family CommandWord: a command's word keeps the reserved
bits zero, holds its opcode, and is its row of the opcode table (30_encoding.md R81, R82). -/

namespace Sys2Proof.Laws.CommandWord

/-- What the family says of a command. -/
abbrev Statement (i : Instr) : Prop :=
  i.wf = true ∧ (Cmd32.ofWord (Sys2Proof.encode i)).wf = true ∧ (Cmd32.ofWord (Sys2Proof.encode i)).op = i.op ∧
    OpRow.mk i 0xFFFFFFFF (Sys2Proof.encode i) ∈ opRows

theorem nop : Statement .nop := by decide

theorem keysched : Statement .keysched := by decide

theorem saltmix : Statement .saltmix := by decide

theorem encrypt : Statement .encrypt := by decide

theorem encode : Statement .encode := by decide

theorem hash : Statement .hash := by decide

theorem clear : Statement .clear := by decide

end Sys2Proof.Laws.CommandWord
end

