-- ==== Sys2Proof/Laws/Step.lean ====
section
/-! SUPPORT. What each command's meaning answers, and what a step can do. -/

namespace Sys2Proof.Machine

/-! ### The meanings -/

theorem exec_nop (s : State) : exec .nop s = .next s.commit := rfl

theorem exec_keysched (s : State) :
    exec .keysched s =
      .next (s.withKs (keySched s.operands.secret0 s.operands.secret1 s.operands.secretLen)).commit := rfl

theorem exec_saltmix (s : State) :
    exec .saltmix s =
      .next (s.withMasks (swapMask0 (effectiveSalt s.operands.salt)) (swapMask1 (effectiveSalt s.operands.salt))
        (effectiveSalt s.operands.salt)).commit := rfl

theorem exec_encrypt (s : State) :
    exec .encrypt s =
      .next (s.withOut (encryptBlock ⟨s.operands.ks, s.operands.eswap0, s.operands.eswap1⟩).l
        (encryptBlock ⟨s.operands.ks, s.operands.eswap0, s.operands.eswap1⟩).r).commit := rfl

theorem exec_encode (s : State) :
    exec .encode s =
      .next (s.withResult (encodeResult s.operands.saltEff s.operands.out0 s.operands.out1)).commit := rfl

/-- HASH in one equation, with what it makes of KS and OUT by whether the effective salt is valid. -/
theorem exec_hash (s : State) :
    let eff := effectiveSalt s.operands.salt
    let ks := if effValid eff then keySched s.operands.secret0 s.operands.secret1 s.operands.secretLen else s.operands.ks
    let out :=
      if effValid eff then encryptBlock ⟨ks, swapMask0 eff, swapMask1 eff⟩ else ⟨s.operands.out0, s.operands.out1⟩
    exec .hash s =
      .next ((((s.withMasks (swapMask0 eff) (swapMask1 eff) eff).withKs ks).withOut out.l out.r).withResult
        (encodeResult eff out.l out.r)).commit := rfl

theorem exec_clear (s : State) : exec .clear s = .next s.scrub.commit := rfl

/-- Every command of the engine completes (60_exceptions.md R201): its meaning answers a next state, idle and DONE. -/
theorem exec_next (i : Instr) (s : State) : ∃ t, exec i s = .next t ∧ t.pending = none ∧ t.done = true := by
  cases i <;> exact ⟨_, rfl, rfl, rfl⟩

/-! ### Steps -/

/-- Everything the sequencer's turn can do. -/
theorem sequencerTurn_cases {s t : State} (h : sequencerTurn s = .next t) :
    (∃ p, s.pending = some p ∧ exec p.op s = .next t) ∨ (s.pending = none ∧ t = s) := by
  unfold sequencerTurn at h
  split at h
  · next p hp => exact .inl ⟨p, hp, h⟩
  · next hp => exact .inr ⟨hp, by simpa using h.symm⟩

/-- Everything a host read can do when it has a step. -/
theorem hostRead_cases {s t : State} {off : Int} {n : Nat} (h : s.hostRead off n = .next t) :
    ∃ r, accessTarget off n = .reg r ∧ t = s.workInFlight.latch (s.readReg r) := by
  unfold State.hostRead at h
  split at h
  · next r hr => exact ⟨r, hr, by simpa using h.symm⟩
  · simp at h

/-- Everything a host write can do when it has a step. -/
theorem hostWrite_cases {s t : State} {off : Int} {n : Nat} {v : Word} (h : s.hostWrite off n v = .next t) :
    ∃ r, accessTarget off n = .reg r ∧ t = s.workInFlight.writeReg r v := by
  unfold State.hostWrite at h
  split at h
  · next r hr => exact ⟨r, hr, by simpa using h.symm⟩
  · simp at h

/-- Everything a CMD write can do. -/
theorem writeCmd_cases (s : State) (v : Word) :
    (s.busy = true ∧ s.writeCmd v = s.commandError .busy v) ∨
    (s.busy = false ∧ decodeWord v = .rejected .reservedBits ∧ s.writeCmd v = s.commandError .reservedBits v) ∨
    (s.busy = false ∧ decodeWord v = .rejected .reservedOp ∧ s.writeCmd v = s.commandError .reservedOp v) ∨
    (∃ i, s.busy = false ∧ decodeWord v = .command i ∧ s.writeCmd v = s.accept i) := by
  unfold State.writeCmd
  cases hb : s.busy
  · cases hd : decodeWord v with
    | command i => exact .inr (.inr (.inr ⟨i, rfl, rfl, rfl⟩))
    | rejected e =>
      cases e
      · exact .inr (.inl ⟨rfl, rfl, rfl⟩)
      · exact .inr (.inr (.inl ⟨rfl, rfl, rfl⟩))
  · exact .inl ⟨rfl, rfl⟩

/-- Everything an event can do when it has a step. -/
theorem takeEvent_cases {e : Event} {s t : State} (h : takeEvent e s = .next t) :
    (∃ off n, e = .read off n ∧ s.hostRead off n = .next t) ∨
    (∃ off n v, e = .write off n v ∧ s.hostWrite off n v = .next t) ∨
    (e = .commit ∧ sequencerTurn s = .next t) ∨ (e = .reset ∧ t = s.resetStep) := by
  cases e with
  | read off n => exact .inl ⟨off, n, rfl, h⟩
  | write off n v => exact .inr (.inl ⟨off, n, v, rfl, h⟩)
  | commit => exact .inr (.inr (.inl ⟨rfl, h⟩))
  | reset => exact .inr (.inr (.inr ⟨rfl, by simpa [takeEvent] using h.symm⟩))
  | accessInReset => simp [takeEvent] at h

/-- Everything a step can do: the sequencer's turn when no event is left, else the next event. -/
theorem step_cases {s t : State} (h : step s = .next t) :
    (s.inputs = [] ∧ sequencerTurn s = .next t) ∨
    (∃ e rest, s.inputs = e :: rest ∧ takeEvent e (s.withInputs rest) = .next t) := by
  unfold step at h
  split at h
  · next hi => exact .inl ⟨hi, h⟩
  · next e rest hi => exact .inr ⟨e, rest, hi, h⟩

/-- A step in one list of cases: the state without the event taken, a read, a write, the commit of the pending command, or
reset. -/
theorem step_effects {s t : State} (h : step s = .next t) :
    ∃ l, (l = s.inputs ∨ ∃ e, s.inputs = e :: l) ∧
      (t = s.withInputs l ∨ (∃ v, t = (s.withInputs l).workInFlight.latch v) ∨
        (∃ r v, t = (s.withInputs l).workInFlight.writeReg r v) ∨
        (∃ p, s.pending = some p ∧ exec p.op (s.withInputs l) = .next t) ∨ t = (s.withInputs l).resetStep) := by
  rcases step_cases h with ⟨-, h⟩ | ⟨e, rest, hi, h⟩
  · refine ⟨s.inputs, .inl rfl, ?_⟩
    rcases sequencerTurn_cases h with ⟨p, hp, h⟩ | ⟨-, rfl⟩
    · exact .inr (.inr (.inr (.inl ⟨p, hp, h⟩)))
    · exact .inl rfl
  · refine ⟨rest, .inr ⟨e, hi⟩, ?_⟩
    rcases takeEvent_cases h with ⟨off, n, -, h⟩ | ⟨off, n, v, -, h⟩ | ⟨-, h⟩ | ⟨-, rfl⟩
    · obtain ⟨r, -, rfl⟩ := hostRead_cases h
      exact .inr (.inl ⟨_, rfl⟩)
    · obtain ⟨r, -, rfl⟩ := hostWrite_cases h
      exact .inr (.inr (.inl ⟨r, v, rfl⟩))
    · rcases sequencerTurn_cases h with ⟨p, hp, h⟩ | ⟨-, rfl⟩
      · exact .inr (.inr (.inr (.inl ⟨p, hp, h⟩)))
      · exact .inl rfl
    · exact .inr (.inr (.inr (.inr rfl)))

/-- A command written to an idle engine and waited for is exec of it on the state its acceptance leaves. -/
theorem runCommand_idle {i : Instr} {s : State} (h : s.pending = none) : runCommand i s = exec i (s.accept i) := by
  have hd : decodeWord (encode i) = .command i := by cases i <;> rfl
  simp [runCommand, State.writeReg, State.writeCmd, workInFlight_idle h, State.busy, h, hd, sequencerTurn]

end Sys2Proof.Machine
end

