-- ==== Sys2Proof/Tests/Slice0.lean ====
section
/-! SUPPORT. The model's own tests. Expected values come from spec/95_test_vectors.md (named by their ids) or from the rule
cited. The second part shows, for each statement with hypotheses, a concrete state and operands that meet them. -/

namespace Sys2Proof.Tests

open Sys2Proof Sys2Proof.Machine

/-! ### Helpers -/

/-- The next state, or the reset state where there is none. -/
def after (r : StepResult) : State :=
  match r with
  | .next s => s
  | .fault _ => State.reset
  | .refused _ => State.reset

/-- Whether a step has a next state. -/
def runs (r : StepResult) : Bool :=
  match r with
  | .next _ => true
  | .fault _ => false
  | .refused _ => false

/-- The fault a step ends in. -/
def faultOf (r : StepResult) : Option Fault :=
  match r with
  | .next _ => none
  | .fault f => some f
  | .refused _ => none

/-- An idle engine with the given secret and salt. -/
def withSecret (secret0 secret1 : Word) (len : BitVec 8) (salt : BitVec 18) : State :=
  { State.reset with secret0 := secret0, secret1 := secret1, secretLen := len, salt := salt }

/-- The registers of one host read each. -/
def reads (s : State) (rs : List Reg) : List Word := rs.map s.readReg

/-- An engine with the command in flight. -/
def inFlight (i : Instr) (s : State) : State := { s with pending := some ⟨i, s.snapshot⟩ }

/-! ### Well-formedness refuses each ill-formed term -/

theorem test_wf_refuses_mbz : (Cmd32.mk 1 5).wf = false ∧ (Cmd32.mk 1 5).mbzOk = false := by decide

theorem test_wf_refuses_reserved_op :
    (Cmd32.mk 0 6).wf = false ∧ (Cmd32.mk 0 0xE).wf = false ∧ (Cmd32.mk 0 0xF).wf = true ∧ (Cmd32.mk 0 5).wf = true := by
  decide

theorem test_wf_refuses_label : HostStmt.wfProgram [.bit1 7 0 2, .halt] = false ∧
    HostStmt.wfProgram [.bit0 7 0 2, .halt] = false ∧ HostStmt.wfProgram [.bit1 7 0 1, .halt] = true := by decide

/-! ### Decoding: each command's word, bit by bit from R81 (31:4 zero, 3:0 OP) and R82 -/

theorem test_decode_nop : decodeWord 0b00000000000000000000000000000000 = .command .nop := by decide
theorem test_decode_keysched : decodeWord 0b00000000000000000000000000000001 = .command .keysched := by decide
theorem test_decode_saltmix : decodeWord 0b00000000000000000000000000000010 = .command .saltmix := by decide
theorem test_decode_encrypt : decodeWord 0b00000000000000000000000000000011 = .command .encrypt := by decide
theorem test_decode_encode : decodeWord 0b00000000000000000000000000000100 = .command .encode := by decide
theorem test_decode_hash : decodeWord 0b00000000000000000000000000000101 = .command .hash := by decide
theorem test_decode_clear : decodeWord 0b00000000000000000000000000001111 = .command .clear := by decide

/-- CT-3, CT-5 and CT-6: bits 31:4 are checked before OP. -/
theorem test_decode_rejects : decodeWord 0x00000010 = .rejected .reservedBits ∧
    decodeWord 0x0000000E = .rejected .reservedOp ∧ decodeWord 0x80000005 = .rejected .reservedBits := by decide

theorem test_decode_bytes : decode [0x05, 0x00, 0x00, 0x00, 0xAA] = .word (.command .hash) [0xAA] ∧
    decode [0x05, 0x00, 0x00] = .truncated ∧ decodeTableWord 32 0xF = some .clear := by decide

/-! ### The datapath -/

/-- BP-1, BP-2 and BP-5. -/
theorem test_permute_exchange : permuteExchange 0xFFFFFFFF 0x00000000 4 0x0F0F0F0F = (0x0F0F0F0F, 0x0F0F0F0F) ∧
    permuteExchange 0x12345678 0x9ABCDEF0 1 0x55555555 = (0x303CFCF0, 0x8BB88BB4) ∧
    permuteExchange 0xA5A5A5A5 0x5A5A5A5A 16 0x0000FFFF = (0x5A5AA5A5, 0x5A5AA5A5) := by decide +kernel

/-- BP-6 and BP-8: the right shift is logical. -/
theorem test_half_permute : halfPermute 0x12345678 0xCCCC0000 = 0x5AF04449 ∧
    halfPermute 0x00002000 0xCCCC0000 = 0x80000000 := by decide +kernel

/-- BP-9 and BP-10. -/
theorem test_rotations : rotr28 0x0000001 1 = 0x8000000 ∧ rotr28 0x0FFFFFFF 2 = 0x0FFFFFFF ∧
    rotr32 0x12345678 4 = 0x81234567 ∧ rotl32 0x80000001 4 = 0x00000018 := by decide +kernel

/-- KS-T1: c and d of `test` after the initial permutation. -/
theorem test_permute_key : permuteKey (packKey 0x74736574 0 4) = ⟨0x00B0F0F0, 0x00D02060⟩ := by decide +kernel

/-- RF-1, RF-6 (i = 4) and RF-8. -/
theorem test_round_function :
    roundFnOn 0x26 0x270 0x10010D21 0x4341A1C0 0 0 = 0xF8D2C2D3 ∧
    roundFnOn 0x3F 0x3F0 0x00140C16 0x02928210 0 0x12345678 = 0x6CBDF34B ∧
    roundFnOn 0 0 0 0 0 0 = 0x7BB63636 := by decide +kernel

/-! ### The commands, one step each -/

/-- CT-1. -/
theorem test_nop : reads (after (exec .nop State.reset)) [.status, .out0, .resultLen] = [2, 0, 0] := by decide +kernel

/-- KS-T1. -/
theorem test_keysched : reads (after (exec .keysched (withSecret 0x74736574 0 4 0))) [.ks 0, .ks 1, .ks 30, .ks 31] =
    [0x10010D21, 0x4341A1C0, 0x12022029, 0x204131C0] := by decide +kernel

/-- KS-T6 and KS-T8: a single key bit; bit 7 and the bytes from LEN on do not count. -/
theorem test_keysched_bits : reads (after (exec .keysched (withSecret 0x00000001 0 1 0))) [.ks 2, .ks 3, .ks 31] =
      [0x10000000, 0, 0x80000000] ∧
    reads (after (exec .keysched (withSecret 0xFFFFFF81 7 1 0))) [.ks 2, .ks 3, .ks 31] =
      [0x10000000, 0, 0x80000000] := by decide +kernel

/-- SM-1 and SM-10 (LEN 1: CH1 ignored). -/
theorem test_saltmix : reads (after (exec .saltmix (withSecret 0 0 0 0x26261))) [.saltEff, .eswap0, .eswap1] =
      [0x00016261, 0x26, 0x270] ∧
    reads (after (exec .saltmix (withSecret 0 0 0 0x14161))) [.saltEff, .eswap0, .eswap1] =
      [0x00016161, 0x26, 0x260] := by decide +kernel

/-- SM-12 and SM-14: the empty salt, and bytes outside the alphabet. -/
theorem test_saltmix_corners : reads (after (exec .saltmix State.reset)) [.saltEff, .eswap0, .eswap1] = [0, 0, 0] ∧
    reads (after (exec .saltmix (withSecret 0 0 0 0x3FFFF))) [.saltEff, .eswap0, .eswap1] = [0x0001FFFF, 0, 0] := by
  decide +kernel

/-- FE-6: the reset schedule, as the first step after reset. -/
theorem test_encrypt : reads (after (step (State.reset.withFetchWord 32 3))) [.out0, .out1, .status] =
    [0xE94DA68C, 0xA723B1C1, 2] := by decide +kernel

/-- EN-1. -/
theorem test_encode : reads (after (exec .encode
      { State.reset with saltEff := 0x16261, out0 := 0xAD97AAB1, out1 := 0xCD8DB2BB }))
      [.result0, .result1, .result2, .result3, .resultLen, .status] =
    [0x4F676261, 0x50664C65, 0x51586D69, 0x6F, 13, 2] := by decide +kernel

/-- EN-2 and EN-7: the padding bits, and the empty result. -/
theorem test_encode_corners : reads (after (exec .encode
      { State.reset with saltEff := 0x16261, out0 := 0xFFFFFFFF, out1 := 0xFFFFFFFF })) [.result0, .result3] =
      [0x7A7A6261, 0x77] ∧
    reads (after (exec .encode { State.reset with out0 := 0xAD97AAB1, result0 := 5 })) [.result0, .resultLen, .status] =
      [0, 0, 6] := by decide +kernel

/-- H-13: salt bytes of 0x80 and more, a five-byte secret. -/
theorem test_hash : reads (after (exec .hash (withSecret 0x6C6C6568 0x0000006F 5 0x2E2C1)))
      [.out0, .out1, .result0, .result1, .result2, .result3, .status] =
    [0x4081D0A5, 0x58B7EAB2, 0x5264E2C1, 0x39452F30, 0x70686539, 0x55, 2] := by decide +kernel

/-- H-14 and D21: the empty salt leaves KS and OUT. -/
theorem test_hash_empty_salt : reads (after (exec .hash { withSecret 0x78 0 1 0 with out0 := 7, eswap0 := 3, resultLen := 13 }))
      [.out0, .eswap0, .resultLen, .status] = [7, 0, 0, 6] := by decide +kernel

/-- CT-2: IRQ_EN stays. -/
theorem test_clear : reads (after (exec .clear { withSecret 5 6 7 8 with errIe := true, err := true, errCause := 3, errWord := 9 }))
      [.secret0, .salt, .errCause, .errWord, .irqEn, .status] = [0, 0, 0, 0, 2, 2] := by decide +kernel

/-! ### The register window -/

/-- CT-3 and CT-4: the first error stays captured. -/
theorem test_first_error_capture :
    reads (after ((after (State.reset.hostWrite 0 4 0x10)).hostWrite 0 4 0x7)) [.status, .errCause, .errWord] =
      [8, 2, 0x10] := by decide +kernel

/-- CT-7: BUSY comes first. -/
theorem test_busy_error : reads (after ((after (State.reset.hostWrite 0 4 0x5)).hostWrite 0 4 0x10))
      [.status, .errCause, .errWord] = [9, 1, 0x10] := by decide +kernel

/-- CT-8 and CT-9. -/
theorem test_write_one_to_clear :
    reads (after ({ State.reset with done := true, err := true, errCause := 2, errWord := 4 }.hostWrite 4 4 0x8))
      [.status, .errCause, .errWord] = [2, 0, 0] ∧
    ({ State.reset with done := true, doneIe := true } : State).irq = true ∧
    (after ({ State.reset with done := true, doneIe := true }.hostWrite 4 4 0x2)).irq = false := by decide +kernel

/-- CT-11 to CT-14. -/
theorem test_register_writes : reads (after (State.reset.hostWrite 0x028 4 0x12345678)) [.out0, .reserved3C] = [0, 0] ∧
    reads (after (State.reset.hostWrite 0x018 4 0xFFFFFFFF)) [.salt] = [0x0003FFFF] ∧
    reads (after (State.reset.hostWrite 0x00C 4 0x00000123)) [.secretLen] = [0x23] := by decide +kernel

/-- R63, R64 and R234: the boundaries of the defined accesses. -/
theorem test_stuck_accesses : faultOf (State.reset.hostRead 0 8) = some .accessWidth ∧
    faultOf (State.reset.hostRead 0x100 4) = some .outsideWindow ∧ faultOf (State.reset.hostWrite (-4) 4 0) = some .outsideWindow ∧
    faultOf (State.reset.hostRead 0x0FD 4) = some .misaligned ∧ runs (State.reset.hostRead 0x0FC 4) = true ∧
    faultOf (takeEvent .accessInReset State.reset) = some .accessDuringReset := by decide +kernel

/-- R200: a host read step returns the register. -/
theorem test_read_step : (after (step { State.reset with salt := 0x26261, inputs := [.read 0x018 4] })).readData =
    some 0x00026261 := by decide +kernel

/-! ### The host assembly -/

/-- R88: the pseudo-instructions put the values of the table on the bus (program 1's first lines, and `salt c0`). -/
theorem test_pseudo : secretStmts [0x74, 0x65, 0x73, 0x74] = [.wr .secret0 0x74736574, .wr .secret1 0, .wr .secretLen 4] ∧
    saltStmts [0x61, 0x62] = [.wr .salt 0x00026261] ∧ saltStmts [0x61] = [.wr .salt 0x00010061] ∧
    saltStmts [] = [.wr .salt 0] ∧ cmdStmts .clear = [.wr .cmd 0xF] ∧ clrstStmts = [.wr .status 0xA] := by decide

/-- R250: step counts of HASH. -/
theorem test_step_counts : (commandSteps .hash (withSecret 0 0 0 0x26261).snapshot).length = 461 ∧
    (commandSteps .hash State.reset.snapshot).length = 13 := by decide +kernel

/-! ### Witnesses: concrete states that meet a statement's hypotheses, clause by clause -/

theorem witness_DecodeReadsExactlyTheEncodedWords : Instr.hash.wf = true ∧ decodeWord 0x5 = .command .hash := by decide

theorem witness_ReservedWordsAreIllegal : State.reset.pending = none ∧
    (∀ i : Instr, (0x10 : Word) ≠ encode i) ∧ (0x10 : Word).extractLsb' 4 28 ≠ 0 ∧
    (∀ i : Instr, (0x6 : Word) ≠ encode i) ∧ (0x6 : Word).extractLsb' 4 28 = 0 ∧
    (∀ i : Instr, (0xE : Word) ≠ encode i) ∧ (0xE : Word).extractLsb' 4 28 = 0 := by
  refine ⟨rfl, fun i => ?_, by decide, fun i => ?_, by decide, fun i => ?_, by decide⟩ <;> cases i <;> decide

theorem witness_CmdWriteDecodes : (inFlight .hash State.reset).pending ≠ none ∧ State.reset.pending = none ∧
    (0x80000005 : Word).extractLsb' 4 28 ≠ 0 ∧
    ((0x6 : Word).extractLsb' 4 28 = 0 ∧ 0x6 ≤ (0x6 : Word).extractLsb' 0 4 ∧ (0x6 : Word).extractLsb' 0 4 ≤ 0xE) ∧
    ((0xE : Word).extractLsb' 4 28 = 0 ∧ 0x6 ≤ (0xE : Word).extractLsb' 0 4 ∧ (0xE : Word).extractLsb' 0 4 ≤ 0xE) ∧
    ((0x5 : Word).extractLsb' 4 28 = 0 ∧ (0x5 : Word).extractLsb' 0 4 ≤ 0x5) ∧
    ((0xF : Word).extractLsb' 4 28 = 0 ∧ (0xF : Word).extractLsb' 0 4 = 0xF) := by decide

/-- The three reasons at boundary words, then a step that leaves ERR = 0, then one that sets it. -/
theorem witness_ErrorsComeFromCmdWritesAlone :
    (({ inFlight .nop State.reset with inputs := [.write 0 4 0x5] } : State).err = false ∧
      ({ inFlight .nop State.reset with inputs := [.write 0 4 0x5] } : State).pending ≠ none) ∧
    (({ State.reset with inputs := [.write 0 4 0x10] } : State).pending = none ∧ (0x10 : Word).extractLsb' 4 28 ≠ 0) ∧
    ((0xE : Word).extractLsb' 4 28 = 0 ∧ 0x6 ≤ (0x6 : Word).extractLsb' 0 4 ∧ (0xE : Word).extractLsb' 0 4 ≤ 0xE) ∧
    (∃ t, step State.reset = .next t ∧ State.reset.errCause = 0 ∧ t.err = false) ∧
    ∃ s t : State, step s = .next t ∧ s.err = false ∧ t.err = true :=
  ⟨by decide, by decide, by decide, ⟨_, rfl, rfl, rfl⟩, ⟨{ State.reset with inputs := [.write 0 4 0x10] }, _, rfl, rfl, rfl⟩⟩

/-- The two cases of a command's acceptance, and a snapshot in flight. -/
theorem witness_AcceptedAs : State.reset.pending = none ∧ (inFlight .clear State.reset).pending ≠ none ∧
    (inFlight .clear State.reset).pending = some ⟨.clear, State.reset.snapshot⟩ := by decide

/-- One step for each disjunct of the statement. -/
theorem witness_ErrorCaptureWriters :
    (∃ t, step { State.reset with inputs := [.write 0 4 0x7] } = .next t ∧ t.errCause = 3 ∧ t.errWord = 0x7) ∧
    (∃ t, step { State.reset with err := true, errCause := 1, errWord := 2, inputs := [.write 4 4 0x8] } = .next t ∧
      t.errCause = 0) ∧
    (∃ t, step { inFlight .clear State.reset with err := true, errCause := 1, errWord := 2 } = .next t ∧ t.errCause = 0) ∧
    ∃ t, step { State.reset with err := true, errCause := 1, errWord := 2, inputs := [.reset] } = .next t ∧ t.errCause = 0 :=
  ⟨⟨_, rfl, rfl, rfl⟩, ⟨_, rfl, rfl⟩, ⟨_, rfl, rfl⟩, ⟨_, rfl, rfl⟩⟩

theorem witness_ReadsReturnTheRegisterAndChangeNothing :
    accessDefined 0x000 4 = true ∧ accessDefined 0x0FC 4 = true := by decide

theorem witness_UndefinedAccessesStop :
    ((4 : Nat) = 4 ∧ (0 : Int) ≤ 0 ∧ (0 : Int) < 0x100 ∧ (0 : Int) % 4 = 0) ∧
    ((4 : Nat) = 4 ∧ (0 : Int) ≤ 0xFC ∧ (0xFC : Int) < 0x100 ∧ (0xFC : Int) % 4 = 0) ∧
    ¬((4 : Nat) = 4 ∧ (0 : Int) ≤ 0x100 ∧ (0x100 : Int) < 0x100 ∧ (0x100 : Int) % 4 = 0) ∧
    ¬((4 : Nat) = 4 ∧ (0 : Int) ≤ -4 ∧ (-4 : Int) < 0x100 ∧ (-4 : Int) % 4 = 0) ∧
    ¬((4 : Nat) = 4 ∧ (0 : Int) ≤ 1 ∧ (1 : Int) < 0x100 ∧ (1 : Int) % 4 = 0) ∧
    ¬((8 : Nat) = 4 ∧ (0 : Int) ≤ 0 ∧ (0 : Int) < 0x100 ∧ (0 : Int) % 4 = 0) := by decide

theorem witness_RwRegistersReadBack : Reg.irqEn ∈ rwRegs ∧ Reg.salt ∈ rwRegs ∧ Reg.secret1 ∈ rwRegs := by decide

theorem witness_ReadOnlyWritesAreIgnored : (Reg.ks 31 ∉ rwRegs ∧ Reg.ks 31 ≠ .cmd ∧ Reg.ks 31 ≠ .status) ∧
    (Reg.reserved50 0 ∉ rwRegs ∧ Reg.reserved50 0 ≠ .cmd ∧ Reg.reserved50 0 ≠ .status) := by decide

theorem witness_OnlyCmdWritesAreNotIdempotent : Reg.status ≠ .cmd ∧ Reg.salt ≠ .cmd := by decide

theorem witness_InterruptSources : (0x2 : Word).getLsbD 1 = true ∧ (0x8 : Word).getLsbD 3 = true := by decide

theorem witness_KeyschedCommitsTheSchedule : (8 : BitVec 8) ≤ 8 ∧ (8 : BitVec 8) ≤ 255 := by decide

theorem witness_SaltmixCommitsTheMasks : saltLen (State.reset.operands.salt) = 0 ∧
    saltLen ((withSecret 0 0 0 0x10061).operands.salt) = 1 ∧ saltLen ((withSecret 0 0 0 0x36261).operands.salt) = 3 := by
  decide

theorem witness_EncryptCommitsTheCiphertext : State.reset.pending = none := rfl

theorem witness_EncodeCommitsTheResult : effValid State.reset.operands.saltEff = false ∧
    effValid ({ State.reset with saltEff := 0x10000 } : State).operands.saltEff = true := by decide

theorem witness_EncodeWalksTheGroups : effValid ({ State.reset with saltEff := 0x16261 } : State).operands.saltEff = true := by
  decide

theorem witness_HashCommitsEveryResult : (saltLen State.reset.operands.salt = 0 ∧ State.reset.pending = none) ∧
    saltLen (withSecret 1 2 3 0x26261).operands.salt ≠ 0 := by decide

/-- The empty salt with the command in flight, in a state that meets the invariant. -/
theorem witness_HashCommitsEveryResult_inFlight : saltLen (inFlight .hash State.reset).operands.salt = 0 ∧
    (inFlight .hash State.reset).pending ≠ none ∧ (inFlight .hash State.reset).Inv :=
  ⟨by decide, by decide, by decide, by decide, by decide, by decide, by decide, by decide, by decide, by decide, by decide,
    by decide, by decide, by decide, by simp [inFlight, State.reset, State.snapshot]⟩

theorem witness_PermuteExchangeSwapsSelectedBits : (∀ i, 32 - (16 : Fin 32).val ≤ i → (0x0000FFFF : Word).getLsbD i = false) ∧
    (∀ i, 32 - (0 : Fin 32).val ≤ i → (0xFFFFFFFF : Word).getLsbD i = false) := by
  constructor
  · intro i hi
    by_cases h : i < 32
    · have h16 : 16 ≤ i := hi
      interval_cases i <;> decide
    · exact BitVec.getLsbD_of_ge _ _ (by omega)
  · exact fun i hi => BitVec.getLsbD_of_ge _ _ hi

theorem witness_HalfPermuteSwapsSelectedBits : (1 ≤ 18 ∧ 18 ≤ 31) ∧ (0xCCCC0000 : Word) &&& ((0xCCCC0000 : Word) >>> 18) = 0 ∧
    (∀ i, i < 18 → (0xCCCC0000 : Word).getLsbD i = false) := by decide

theorem witness_DistancesOutOfRangeAreRefused : 32 ≤ 32 ∧ ((16 : Int) - 16 < 1 ∨ (31 : Int) < 16 - 16) ∧
    ((16 : Int) - (-16) < 1 ∨ (31 : Int) < 16 - (-16)) ∧ ((1 : Int) ≤ 16 - 15 ∧ (16 : Int) - 15 ≤ 31) ∧
    ((1 : Int) ≤ 16 - (-15) ∧ (16 : Int) - (-15) ≤ 31) := by decide

theorem witness_SixteenRotationsReturnTheKey : (KeyHalves.mk 0x0FFFFFFF 1).c >>> 28 = 0 ∧
    (KeyHalves.mk 0x0FFFFFFF 1).d >>> 28 = 0 := by decide

/-- Different secrets and lengths that the statement joins: bit 7 of byte 0, and a ninth length. -/
theorem witness_ScheduleReadsOnlyTheKeyBits : secretCount 8 = secretCount 13 ∧ ∀ k : Fin 8, k.val < secretCount 8 →
    (secretByte 0x000000E1 0 k).extractLsb' 0 7 = (secretByte 0x00000061 0 k).extractLsb' 0 7 := by decide +kernel

theorem witness_MasksSwapExpansionBits : (0x3F0 : Word) >>> 16 = 0 ∧ (0xFFFF : Word) >>> 16 = 0 := by decide

theorem witness_SaltDuplicationAndMaskInjectivity : isAlphabet 0x2E = true ∧ isAlphabet 0x7A = true ∧
    swapMask0 (effectiveSalt ((2 : BitVec 2) ++ (0x7A : Byte) ++ (0x2E : Byte))) =
      swapMask0 (effectiveSalt ((2 : BitVec 2) ++ (0x7A : Byte) ++ (0x2E : Byte))) ∧
    swapMask1 (effectiveSalt ((2 : BitVec 2) ++ (0x7A : Byte) ++ (0x2E : Byte))) =
      swapMask1 (effectiveSalt ((2 : BitVec 2) ++ (0x7A : Byte) ++ (0x2E : Byte))) := by decide +kernel

theorem witness_EncodingIsInjective : effValid 0x16261 = true ∧ encodeResult 0x16261 1 2 = encodeResult 0x16261 1 2 := by
  decide +kernel

theorem witness_HashEchoesTheSalt : saltLen (withSecret 1 2 3 0x10061).operands.salt ≠ 0 := by decide

/-- A pending command with no event, with the sequencer's turn next, and an idle engine before a CMD write. -/
theorem witness_StepRunsTheAcceptedCommand :
    ((inFlight .hash State.reset).pending = some ⟨.hash, State.reset.snapshot⟩ ∧ (inFlight .hash State.reset).inputs = []) ∧
    ({ inFlight .nop State.reset with inputs := [.commit] } : State).inputs = .commit :: [] ∧
    (State.reset.pending = none ∧ decodeWord 0xF = .command .clear ∧
      ({ State.reset with inputs := [.write 0 4 0xF] } : State).inputs = .write 0x000 4 0xF :: []) := by decide

theorem witness_PlacedWordIsRunNext : decodeTableWord 32 0x0 = some .nop ∧ decodeTableWord 32 0xF = some .clear := by decide

theorem witness_AcceptThenCommitIsExec : State.reset.pending = none := rfl

theorem witness_CommandsComputeFromTheirSnapshot :
    (inFlight .saltmix State.reset).pending = some ⟨.saltmix, State.reset.snapshot⟩ ∧ Reg.salt ∈ rwRegs ∧
    (inFlight .clear State.reset).pending = some ⟨.clear, State.reset.snapshot⟩ ∧ Reg.irqEn ∈ rwRegs := by decide

/-- A step that leaves the command in flight, one that commits it, and reset. -/
theorem witness_OnlyResetEndsACommandWithoutCommit :
    (∃ t, step { inFlight .hash State.reset with inputs := [.read 4 4] } = .next t) ∧
    (∃ t, step (inFlight .hash State.reset) = .next t) ∧
    ∃ t, step { inFlight .hash State.reset with inputs := [.reset] } = .next t :=
  ⟨⟨_, rfl⟩, ⟨_, rfl⟩, ⟨_, rfl⟩⟩

theorem witness_ResultsAppearOnlyAtTheCommit : ∃ t, step (inFlight .saltmix (withSecret 0 0 0 0x26261)) = .next t ∧
    t.readReg .eswap0 = 0x26 := ⟨_, rfl, by decide +kernel⟩

theorem witness_ResetIsOneStep : ({ inFlight .hash State.reset with inputs := [.reset, .commit] } : State).inputs =
    .reset :: [.commit] := rfl

theorem witness_PendingCommandCommits :
    ({ inFlight .nop State.reset with inputs := [.read 4 4, .write 0x018 4 7] } : State).pending =
      some ⟨.nop, State.reset.snapshot⟩ ∧
    ∀ e ∈ ({ inFlight .nop State.reset with inputs := [.read 4 4, .write 0x018 4 7] } : State).inputs,
      e.isQuietAccess = true := by decide

/-- The reset state meets every clause of the invariant, and it has a step. -/
theorem witness_EveryStepKeepsTheInvariant : State.reset.Inv ∧ ∃ t, step State.reset = .next t :=
  ⟨⟨by decide, by decide, by decide, by decide, by decide, by decide, by decide, by decide, by decide, by decide, by decide,
    by decide, by simp [State.reset]⟩, ⟨_, rfl⟩⟩

theorem witness_HashIsTheComponentSequence : (State.reset.pending = none ∧ saltLen State.reset.salt = 0) ∧
    ((withSecret 1 2 3 0x26261).pending = none ∧ saltLen (withSecret 1 2 3 0x26261).salt ≠ 0) := by decide

theorem witness_HashDependsOnSecretAndSaltAlone :
    saltLen (withSecret 1 2 3 0x26261).operands.salt ≠ 0 ∧
    (withSecret 1 2 3 0x26261).operands.secret0 = ({ withSecret 1 2 3 0x26261 with out0 := 9 } : State).operands.secret0 ∧
    (withSecret 1 2 3 0x26261).operands.secret1 = ({ withSecret 1 2 3 0x26261 with out0 := 9 } : State).operands.secret1 ∧
    (withSecret 1 2 3 0x26261).operands.secretLen = ({ withSecret 1 2 3 0x26261 with out0 := 9 } : State).operands.secretLen ∧
    (withSecret 1 2 3 0x26261).operands.salt = ({ withSecret 1 2 3 0x26261 with out0 := 9 } : State).operands.salt := by
  decide

/-- Each statement form at the first statement of a program that has not halted. -/
theorem witness_HostStatementsMeanTheirAccesses : (HostRun.start [.halt]).halted = false ∧
    (HostRun.start [.wr .salt 7]).prog[0]? = some (.wr .salt 7) ∧
    (HostRun.start [.rd 7 .status]).prog[0]? = some (.rd 7 .status) ∧
    (HostRun.start [.bit1 7 31 0]).prog[0]? = some (.bit1 7 31 0) ∧
    (HostRun.start [.bit0 0 0 0]).prog[0]? = some (.bit0 0 0 0) ∧ (HostRun.start [.halt]).prog[0]? = some .halt := by
  decide

theorem witness_WaitSpinsWhileBusy : (HostRun.start (waitStmts 0)).halted = false ∧ (HostRun.start (waitStmts 0)).next = 0 ∧
    (HostRun.start (waitStmts 0)).prog[0]? = (waitStmts 0)[0]? ∧
    (HostRun.start (waitStmts 0)).prog[0 + 1]? = (waitStmts 0)[1]? := by decide

end Sys2Proof.Tests
end

section
/-! SUPPORT. The bits a register uses, and what a host write to an RW register does (10_state.md R23, R26 to R29, R39). -/

namespace Sys2Proof.Machine

/-! ### The bits a register uses -/

/-- Masking a word to its low `n` bits keeps exactly what a field of `n` bits keeps of it. -/
theorem and_lowMask_eq_setWidth {n : Nat} (hn : n ≤ 32) (v : Word) :
    v &&& BitVec.ofNat 32 (2 ^ n - 1) = (v.setWidth n).setWidth 32 := by
  have hpow : 2 ^ n ≤ 2 ^ 32 := Nat.pow_le_pow_right (by decide) hn
  have hmask : 2 ^ n - 1 < 2 ^ 32 := by have := Nat.two_pow_pos n; omega
  have hfield : v.toNat % 2 ^ n < 2 ^ 32 := (Nat.mod_lt _ (Nat.two_pow_pos n)).trans_le hpow
  apply BitVec.eq_of_toNat_eq
  rw [BitVec.toNat_and, BitVec.toNat_ofNat, Nat.mod_eq_of_lt hmask, Nat.and_two_pow_sub_one_eq_mod,
    BitVec.toNat_setWidth, BitVec.toNat_setWidth, Nat.mod_eq_of_lt hfield]

/-- A field of `n` bits, read as a word, uses only the low `n` bits. -/
theorem setWidth_and_lowMask {n : Nat} (hn : n ≤ 32) (x : BitVec n) :
    x.setWidth 32 &&& BitVec.ofNat 32 (2 ^ n - 1) = x.setWidth 32 := by
  rw [and_lowMask_eq_setWidth hn, BitVec.setWidth_setWidth_of_le _ hn, BitVec.setWidth_eq]

/-- A field of two flags, read as a word. -/
theorem flagAt_or_flagAt_eq_setWidth :
    ∀ x : BitVec 2, flagAt (x.getLsbD 0) 0 ||| flagAt (x.getLsbD 1) 1 = x.setWidth 32 := by
  decide

theorem statusWord_and_usedBits (s : State) : s.statusWord &&& usedBits .status = s.statusWord := by
  unfold State.statusWord
  generalize s.busy = b, s.done = d, s.empty = e, s.err = r
  revert b d e r
  decide

theorem irqEnWord_and_usedBits (s : State) : s.irqEnWord &&& usedBits .irqEn = s.irqEnWord := by
  unfold State.irqEnWord
  generalize s.doneIe = d, s.errIe = e
  revert d e
  decide

/-- A read has no bit outside those the register uses (R23). -/
theorem readReg_and_usedBits (s : State) (r : Reg) : s.readReg r &&& usedBits r = s.readReg r := by
  cases r
  case status => exact statusWord_and_usedBits s
  case irqEn => exact irqEnWord_and_usedBits s
  case secretLen | resultLen | result3 => exact setWidth_and_lowMask (n := 8) (by decide) _
  case salt => exact setWidth_and_lowMask (n := 18) (by decide) _
  case saltEff => exact setWidth_and_lowMask (n := 17) (by decide) _
  case errCause => exact setWidth_and_lowMask (n := 2) (by decide) _
  case cmd | reserved3C | reserved50 => exact BitVec.zero_and
  all_goals exact BitVec.and_allOnes

/-- Unused bits read 0 (R23). -/
theorem readReg_and_not_usedBits (s : State) (r : Reg) : s.readReg r &&& ~~~usedBits r = 0 := by
  rw [← readReg_and_usedBits, BitVec.and_assoc, BitVec.and_not_self]
  exact BitVec.and_zero

/-! ### A write to an RW register -/

theorem mem_rwRegs {r : Reg} :
    r ∈ rwRegs ↔ r = .irqEn ∨ r = .secretLen ∨ r = .secret0 ∨ r = .secret1 ∨ r = .salt := by
  simp [rwRegs]

theorem irqEnWord_withIrqEn (s : State) (v : Word) : (s.withIrqEn v).irqEnWord = v &&& usedBits .irqEn := by
  have hmask : v &&& usedBits .irqEn = (v.setWidth 2).setWidth 32 :=
    and_lowMask_eq_setWidth (n := 2) (by decide) v
  rw [hmask, ← flagAt_or_flagAt_eq_setWidth]
  simp [State.irqEnWord]

/-- An RW register takes the bits it uses of a written word (R39). -/
theorem readReg_writeReg_of_mem_rwRegs {r : Reg} (hr : r ∈ rwRegs) (s : State) (v : Word) :
    (s.writeReg r v).readReg r = v &&& usedBits r := by
  rcases mem_rwRegs.mp hr with rfl | rfl | rfl | rfl | rfl
  · exact irqEnWord_withIrqEn s v
  · exact (and_lowMask_eq_setWidth (n := 8) (by decide) v).symm
  · exact BitVec.and_allOnes.symm
  · exact BitVec.and_allOnes.symm
  · exact (and_lowMask_eq_setWidth (n := 18) (by decide) v).symm

/-- A write to an RW register shows in no other register. -/
theorem sameRegsBut_writeReg_of_mem_rwRegs {r : Reg} (hr : r ∈ rwRegs) (s : State) (v : Word) :
    SameRegsBut [r] s (s.writeReg r v) := by
  intro q hq
  -- `hq` excludes the register written; every other one reads a field the write leaves alone.
  rcases mem_rwRegs.mp hr with rfl | rfl | rfl | rfl | rfl <;> cases q <;> first | rfl | simp at hq

theorem pending_writeReg_of_mem_rwRegs {r : Reg} (hr : r ∈ rwRegs) (s : State) (v : Word) :
    (s.writeReg r v).pending = s.pending := by
  rcases mem_rwRegs.mp hr with rfl | rfl | rfl | rfl | rfl <;> rfl

theorem sameOutside_writeReg_of_mem_rwRegs {r : Reg} (hr : r ∈ rwRegs) (s : State) (v : Word) :
    SameOutside s (s.writeReg r v) := by
  rcases mem_rwRegs.mp hr with rfl | rfl | rfl | rfl | rfl <;> exact ⟨rfl, rfl⟩

/-! ### The sequencer's hidden progress -/

/-- The sequencer's progress before a host access shows in no register. -/
theorem sameRegsBut_workInFlight (ex : List Reg) (s : State) : SameRegsBut ex s s.workInFlight :=
  fun r _ => readReg_workInFlight s r

theorem sameOutside_workInFlight (s : State) : SameOutside s s.workInFlight :=
  ⟨inputs_workInFlight s, readData_workInFlight s⟩

theorem SameOutside.trans {s t u : State} (h : SameOutside s t) (h' : SameOutside t u) : SameOutside s u :=
  ⟨h'.1.trans h.1, h'.2.trans h.2⟩

/-! ### O12 -/

/-- Settles O12: the write acts on the state the sequencer's hidden progress leaves, and that progress is invisible, so
the frames of the two compose whether a command is in flight or not. -/
theorem rwRegistersReadBack : Obligations.RwRegistersReadBack := by
  unfold Obligations.RwRegistersReadBack
  intro s r v hr
  refine ⟨⟨_, hostWrite_offset s r v, readReg_writeReg_of_mem_rwRegs hr _ v, ?_, ?_, ?_⟩, readReg_and_not_usedBits s r⟩
  · exact (sameRegsBut_workInFlight _ s).trans (sameRegsBut_writeReg_of_mem_rwRegs hr _ v)
  · exact (pending_writeReg_of_mem_rwRegs hr _ v).trans (pending_workInFlight s)
  · exact (sameOutside_workInFlight s).trans (sameOutside_writeReg_of_mem_rwRegs hr _ v)

end Sys2Proof.Machine
end

section
/-! SUPPORT. Defined accesses and repeated writes, the registers a commit publishes, and what a step does with them
(20_memory.md R61, R65, R66, R71). -/

namespace Sys2Proof.Machine

/-! ### Defined accesses -/

/-- Every defined access is at some register's offset (R23, R61). -/
theorem exists_offset_eq_of_defined {off : Int} {n : Nat} (h : accessDefined off n = true) :
    ∃ r : Reg, (r.offset : Int) = off :=
  ⟨_, (accessTarget_eq_reg (accessTarget_of_defined h)).2.symm⟩

/-! ### Writes to registers other than CMD -/

/-- A bit that W1C cleared stays clear (R71). -/
theorem writeStatus_writeStatus (s : State) (v : Word) : (s.writeStatus v).writeStatus v = s.writeStatus v := by
  unfold State.writeStatus
  cases v.getLsbD 1 <;> cases v.getLsbD 3 <;> rfl

/-- A second write of the same word to a register other than CMD changes nothing at all. -/
theorem writeReg_writeReg {r : Reg} (hr : r ≠ .cmd) (s : State) (v : Word) :
    (s.writeReg r v).writeReg r v = s.writeReg r v := by
  cases r
  case cmd => exact absurd rfl hr
  case status => exact writeStatus_writeStatus s v
  all_goals rfl

theorem hideWork_writeStatus (s : State) (v : Word) : s.hideWork.writeStatus v = (s.writeStatus v).hideWork := by
  unfold State.writeStatus
  cases v.getLsbD 1 <;> cases v.getLsbD 3 <;> rfl

/-- Only a CMD write reads or sets what the sequencer's hidden progress changes. -/
theorem hideWork_writeReg {r : Reg} (hr : r ≠ .cmd) (s : State) (v : Word) :
    s.hideWork.writeReg r v = (s.writeReg r v).hideWork := by
  cases r
  case cmd => exact absurd rfl hr
  case status => exact hideWork_writeStatus s v
  all_goals rfl

theorem pending_writeReg {r : Reg} (hr : r ≠ .cmd) (s : State) (v : Word) :
    (s.writeReg r v).pending = s.pending := by
  cases r
  case cmd => exact absurd rfl hr
  case status => exact pending_writeStatus s v
  all_goals rfl

theorem workInFlight_writeReg {r : Reg} (hr : r ≠ .cmd) (s : State) (v : Word) :
    s.workInFlight.writeReg r v = (s.writeReg r v).workInFlight := by
  have hbusy : (s.writeReg r v).busy = s.busy := by simp [State.busy, pending_writeReg hr]
  unfold State.workInFlight
  rw [hbusy]
  split
  · exact hideWork_writeReg hr s v
  · rfl

/-- Two writes of the same word to a register other than CMD: the second finds it written, and leaves the sequencer's
hidden progress alone. -/
theorem workInFlight_writeReg_writeReg {r : Reg} (hr : r ≠ .cmd) (s : State) (v : Word) :
    (s.workInFlight.writeReg r v).workInFlight.writeReg r v = (s.workInFlight.writeReg r v).workInFlight := by
  rw [workInFlight_writeReg hr (s.workInFlight.writeReg r v), writeReg_writeReg hr]

/-! ### The registers a commit publishes -/

/-- The contents of the result registers and STATUS.EMPTY: what commits write and the host cannot (R23, R25). -/
structure Results where
  saltEff   : BitVec 17
  eswap0    : Word
  eswap1    : Word
  out0      : Word
  out1      : Word
  resultLen : BitVec 8
  result0   : Word
  result1   : Word
  result2   : Word
  result3   : Byte
  ks        : Vector Word 32
  empty     : Bool

/-- What the host would read of a state's results. -/
def State.results (s : State) : Results :=
  ⟨s.saltEff, s.eswap0, s.eswap1, s.out0, s.out1, s.resultLen, s.result0, s.result1, s.result2, s.result3, s.ks, s.empty⟩

/-- States with the same results show the same in every result register. -/
theorem readReg_eq_of_results_eq {s t : State} (h : t.results = s.results) :
    ∀ q ∈ resultRegs, t.readReg q = s.readReg q := by
  intro q hq
  simp only [State.results, Results.mk.injEq] at h
  obtain ⟨heff, he0, he1, ho0, ho1, hlen, hr0, hr1, hr2, hr3, hks, -⟩ := h
  cases q
  case saltEff | eswap0 | eswap1 | out0 | out1 | resultLen | result0 | result1 | result2 | result3 | ks =>
    simp only [State.readReg, *]
  all_goals simp [resultRegs, ksRegs] at hq

theorem empty_eq_of_results_eq {s t : State} (h : t.results = s.results) : t.empty = s.empty :=
  congrArg Results.empty h

@[simp] theorem results_hideWork (s : State) : s.hideWork.results = s.results := rfl

@[simp] theorem results_latch (s : State) (v : Word) : (s.latch v).results = s.results := rfl

@[simp] theorem results_withInputs (s : State) (l : List Event) : (s.withInputs l).results = s.results := rfl

@[simp] theorem results_accept (s : State) (i : Instr) : (s.accept i).results = s.results := rfl

@[simp] theorem results_commit (s : State) : s.commit.results = s.results := rfl

@[simp] theorem results_withKs (s : State) (ks : Vector Word 32) :
    (s.withKs ks).results = { s.results with ks := ks } := rfl

@[simp] theorem results_withMasks (s : State) (e0 e1 : Word) (eff : BitVec 17) :
    (s.withMasks e0 e1 eff).results = { s.results with eswap0 := e0, eswap1 := e1, saltEff := eff } := rfl

@[simp] theorem results_withOut (s : State) (o0 o1 : Word) :
    (s.withOut o0 o1).results = { s.results with out0 := o0, out1 := o1 } := rfl

@[simp] theorem results_withResult (s : State) (e : Encoded) :
    (s.withResult e).results =
      { s.results with
        result0 := e.result0, result1 := e.result1, result2 := e.result2, result3 := e.result3,
        resultLen := e.len, empty := e.empty } := rfl

/-- CLEAR leaves the same results whatever stood there (R192). -/
theorem results_scrub (s : State) : s.scrub.results = State.reset.results := rfl

@[simp] theorem results_workInFlight (s : State) : s.workInFlight.results = s.results := by
  rcases workInFlight_cases s with h | ⟨-, h⟩ <;> simp [h]

@[simp] theorem results_commandError (s : State) (reason : ErrReason) (v : Word) :
    (s.commandError reason v).results = s.results := by simp [State.results]

@[simp] theorem results_writeStatus (s : State) (v : Word) : (s.writeStatus v).results = s.results := by
  simp [State.results]

@[simp] theorem results_writeCmd (s : State) (v : Word) : (s.writeCmd v).results = s.results := by
  rcases writeCmd_cases s v with ⟨-, h⟩ | ⟨-, -, h⟩ | ⟨-, -, h⟩ | ⟨i, -, -, h⟩ <;> simp [h]

/-- No host write reaches a result register or EMPTY (R62). -/
@[simp] theorem results_writeReg (s : State) (r : Reg) (v : Word) : (s.writeReg r v).results = s.results := by
  cases r
  case cmd => exact results_writeCmd s v
  case status => exact results_writeStatus s v
  all_goals rfl

/-! ### What a command's results depend on, and its frame -/

/-- A command computes from its operands alone: with equal operands, over equal results, it commits equal results
(R65). -/
theorem exec_results_congr (i : Instr) {s u : State} (hops : u.operands = s.operands)
    (hres : u.results = s.results) :
    ∃ s' u', exec i s = .next s' ∧ exec i u = .next u' ∧ u'.results = s'.results := by
  cases i
  case nop => exact ⟨_, _, exec_nop s, exec_nop u, hres⟩
  case keysched => exact ⟨_, _, exec_keysched s, exec_keysched u, by simp [hops, hres]⟩
  case saltmix => exact ⟨_, _, exec_saltmix s, exec_saltmix u, by simp [hops, hres]⟩
  case encrypt => exact ⟨_, _, exec_encrypt s, exec_encrypt u, by simp [hops, hres]⟩
  case encode => exact ⟨_, _, exec_encode s, exec_encode u, by simp [hops, hres]⟩
  case hash => exact ⟨_, _, exec_hash s, exec_hash u, by simp [hops]⟩
  case clear => exact ⟨_, _, exec_clear s, exec_clear u, by simp [results_scrub]⟩

theorem sameRegsBut_withKs (s : State) (ks : Vector Word 32) : SameRegsBut ksRegs s (s.withKs ks) := by
  intro r hr
  cases r
  case ks => simp [ksRegs] at hr
  all_goals rfl

theorem sameRegsBut_withMasks (s : State) (e0 e1 : Word) (eff : BitVec 17) :
    SameRegsBut [.saltEff, .eswap0, .eswap1] s (s.withMasks e0 e1 eff) := by
  intro r hr
  cases r
  case saltEff | eswap0 | eswap1 => simp at hr
  all_goals rfl

theorem sameRegsBut_withOut (s : State) (o0 o1 : Word) : SameRegsBut [.out0, .out1] s (s.withOut o0 o1) := by
  intro r hr
  cases r
  case out0 | out1 => simp at hr
  all_goals rfl

theorem sameRegsBut_withResult (s : State) (e : Encoded) :
    SameRegsBut [.status, .resultLen, .result0, .result1, .result2, .result3] s (s.withResult e) := by
  intro r hr
  cases r
  case status | resultLen | result0 | result1 | result2 | result3 => simp at hr
  all_goals rfl

/-- Every command but CLEAR writes STATUS and result registers alone. -/
theorem sameRegsBut_exec {i : Instr} {s t : State} (hi : i ≠ .clear) (h : exec i s = .next t) :
    SameRegsBut (.status :: resultRegs) s t := by
  have hcommit (u : State) : SameRegsBut (.status :: resultRegs) u u.commit :=
    (readReg_commit u).mono (by simp)
  have hks (u : State) (ks) : SameRegsBut (.status :: resultRegs) u (u.withKs ks) :=
    (sameRegsBut_withKs u ks).mono (by simp +contextual [resultRegs])
  have hmasks (u : State) (e0 e1 eff) : SameRegsBut (.status :: resultRegs) u (u.withMasks e0 e1 eff) :=
    (sameRegsBut_withMasks u e0 e1 eff).mono (by simp [resultRegs])
  have hout (u : State) (o0 o1) : SameRegsBut (.status :: resultRegs) u (u.withOut o0 o1) :=
    (sameRegsBut_withOut u o0 o1).mono (by simp [resultRegs])
  have hresult (u : State) (e) : SameRegsBut (.status :: resultRegs) u (u.withResult e) :=
    (sameRegsBut_withResult u e).mono (by simp [resultRegs])
  cases i <;> cases h
  case nop => exact hcommit _
  case keysched => exact (hks _ _).trans (hcommit _)
  case saltmix => exact (hmasks _ _ _ _).trans (hcommit _)
  case encrypt => exact (hout _ _ _).trans (hcommit _)
  case encode => exact (hresult _ _).trans (hcommit _)
  case hash =>
    exact ((((hmasks _ _ _ _).trans (hks _ _)).trans (hout _ _ _)).trans (hresult _ _)).trans (hcommit _)
  case clear => exact absurd rfl hi

/-- A host can write none of the registers a commit changes. -/
theorem not_mem_status_cons_resultRegs {r : Reg} (hr : r ∈ rwRegs) : r ∉ .status :: resultRegs := by
  rcases mem_rwRegs.mp hr with rfl | rfl | rfl | rfl | rfl <;> decide

@[simp] theorem operands_workInFlight (s : State) : s.workInFlight.operands = s.operands := by
  rcases workInFlight_cases s with h | ⟨-, h⟩ <;> rw [h]
  rfl

/-- A write to another register than CMD leaves a command in flight its operands (R65). -/
theorem operands_writeReg_of_pending {r : Reg} {s : State} {p : Pending} (hr : r ≠ .cmd) (hp : s.pending = some p)
    (v : Word) : (s.writeReg r v).operands = s.operands := by
  rw [operands_pending hp, operands_pending ((pending_writeReg hr s v).trans hp)]

/-! ### Steps -/

/-- Everything a step can do, with the event it takes: nothing, a read, a write, the commit of the pending command, or
reset. -/
theorem step_outcomes {s t : State} (h : step s = .next t) :
    let s₀ := s.withInputs s.inputs.tail
    t = s₀ ∨
    (∃ r rest, s.inputs = .read (Reg.offset r) 4 :: rest ∧ t = s₀.workInFlight.latch (s₀.readReg r)) ∨
    (∃ r v rest, s.inputs = .write (Reg.offset r) 4 v :: rest ∧ t = s₀.workInFlight.writeReg r v) ∨
    (∃ p, s.pending = some p ∧ exec p.op s₀ = .next t) ∨
    (∃ rest, s.inputs = .reset :: rest ∧ t = s₀.resetStep) := by
  intro s₀
  rcases step_cases h with ⟨hin, h⟩ | ⟨e, rest, hin, h⟩
  · have hs₀ : s₀ = s := by simp only [s₀, hin, List.tail_nil]; rw [← hin, withInputs_self]
    rw [hs₀]
    rcases sequencerTurn_cases h with ⟨p, hp, h⟩ | ⟨-, rfl⟩
    · exact .inr (.inr (.inr (.inl ⟨p, hp, h⟩)))
    · exact .inl rfl
  · have hs₀ : s₀ = s.withInputs rest := by simp only [s₀, hin, List.tail_cons]
    rw [← hs₀] at h
    rcases takeEvent_cases h with ⟨off, n, rfl, h⟩ | ⟨off, n, v, rfl, h⟩ | ⟨-, h⟩ | ⟨rfl, rfl⟩
    · obtain ⟨r, hr, rfl⟩ := hostRead_cases h
      obtain ⟨rfl, rfl⟩ := accessTarget_eq_reg hr
      exact .inr (.inl ⟨r, rest, hin, rfl⟩)
    · obtain ⟨r, hr, rfl⟩ := hostWrite_cases h
      obtain ⟨rfl, rfl⟩ := accessTarget_eq_reg hr
      exact .inr (.inr (.inl ⟨r, v, rest, hin, rfl⟩))
    · rcases sequencerTurn_cases h with ⟨p, hp, h⟩ | ⟨-, rfl⟩
      · exact .inr (.inr (.inr (.inl ⟨p, hp, h⟩)))
      · exact .inl rfl
    · exact .inr (.inr (.inr (.inr ⟨rest, hin, rfl⟩)))

/-! ### O9, O15, O45, O46 -/

/-- Settles O9: a defined access is at a register's offset, and a read latches that register's value over the sequencer's
hidden progress, which shows nowhere. -/
theorem readsReturnTheRegisterAndChangeNothing : Obligations.ReadsReturnTheRegisterAndChangeNothing := by
  unfold Obligations.ReadsReturnTheRegisterAndChangeNothing
  refine ⟨fun s off hoff => ?_, fun s => ⟨rfl, rfl, fun _ => rfl⟩, readReg_and_not_usedBits⟩
  obtain ⟨r, rfl⟩ := exists_offset_eq_of_defined hoff
  refine ⟨r, _, rfl, hostRead_offset s r, rfl, fun q _ => ?_, ?_⟩
  · rw [readReg_latch, readReg_workInFlight]
  · exact ⟨done_workInFlight s, empty_workInFlight s, err_workInFlight s, pending_workInFlight s, irq_workInFlight s,
      inputs_workInFlight s⟩

/-- Settles O15: a second read finds the same registers; a second write to another register than CMD finds its word
written; a NOP written twice is accepted, then rejected as BUSY, which sets STATUS.ERR. -/
theorem onlyCmdWritesAreNotIdempotent : Obligations.OnlyCmdWritesAreNotIdempotent := by
  unfold Obligations.OnlyCmdWritesAreNotIdempotent
  refine ⟨fun s r => ?_, fun s r v hr => ?_, ?_⟩
  · exact ⟨_, _, hostRead_offset s r, hostRead_offset _ r, by simp, fun q _ => by simp, by simp⟩
  · refine ⟨_, _, hostWrite_offset s r v, hostWrite_offset _ r v, ?_⟩
    rw [workInFlight_writeReg_writeReg hr]
    exact ⟨sameRegsBut_workInFlight [] _, pending_workInFlight _⟩
  · refine ⟨State.reset, encode .nop, _, _, hostWrite_offset _ .cmd _, hostWrite_offset _ .cmd _, fun h => ?_⟩
    exact absurd (h .status List.not_mem_nil) (by decide)

/-- Settles O45: the snapshot outlives the write, so the command computes from the same operands over the same results;
and only CLEAR's commit reaches a register the host can write. -/
theorem commandsComputeFromTheirSnapshot : Obligations.CommandsComputeFromTheirSnapshot := by
  unfold Obligations.CommandsComputeFromTheirSnapshot
  refine ⟨State.accept_pending, fun s p r v hp hr => ?_⟩
  have hcmd : r ≠ .cmd := by rintro rfl; simp [rwRegs] at hr
  have hops : (s.workInFlight.writeReg r v).operands = s.operands := by
    rw [operands_writeReg_of_pending hcmd ((pending_workInFlight s).trans hp), operands_workInFlight]
  obtain ⟨t, u, ht, hu, hres⟩ := exec_results_congr p.op hops (by simp)
  exact ⟨_, t, u, hostWrite_offset s r v, ht, hu, readReg_eq_of_results_eq hres, empty_eq_of_results_eq hres,
    fun hclear q hq => sameRegsBut_exec hclear hu q (not_mem_status_cons_resultRegs hq)⟩

/-- Settles O46: of what a step can do, only a commit and reset change the results. -/
theorem resultsAppearOnlyAtTheCommit : Obligations.ResultsAppearOnlyAtTheCommit := by
  unfold Obligations.ResultsAppearOnlyAtTheCommit
  intro s t h
  have hkept (hres : t.results = s.results) : (∀ q ∈ resultRegs, t.readReg q = s.readReg q) ∧ t.empty = s.empty :=
    ⟨readReg_eq_of_results_eq hres, empty_eq_of_results_eq hres⟩
  rcases step_outcomes h with rfl | ⟨r, rest, -, rfl⟩ | ⟨r, v, rest, -, rfl⟩ | ⟨p, hp, he⟩ | ⟨rest, hin, -⟩
  · exact .inl (hkept (by simp))
  · exact .inl (hkept (by simp))
  · exact .inl (hkept (by simp))
  · obtain ⟨u, hu, hidle, hdone⟩ := exec_next p.op (s.withInputs s.inputs.tail)
    obtain rfl : u = t := by simpa using hu.symm.trans he
    exact .inr (.inl ⟨p, hp, he, by simp [State.busy, hidle], hdone⟩)
  · exact .inr (.inr ⟨rest, hin⟩)

end Sys2Proof.Machine
end

section
/-! SUPPORT. What a CMD write does, line by line of the decoder, and what each host statement does
(30_encoding.md R80, R84, R86, R87). -/

namespace Sys2Proof

/-! ### The decoder and the reserved words -/

/-- The opcode map has no row for 0x6 to 0xE, and for no other opcode (R82). -/
theorem ofOp_eq_none_iff (op : BitVec 4) : Instr.ofOp op = none ↔ 0x6 ≤ op ∧ op ≤ 0xE := by
  revert op
  decide

/-- The opcodes the map has a row for: those R80 does not reserve. -/
theorem exists_ofOp_eq_some {op : BitVec 4} (h : op ≤ 0x5 ∨ op = 0xF) : ∃ i, Instr.ofOp op = some i := by
  refine Option.ne_none_iff_exists'.mp fun hnone => ?_
  obtain ⟨hlo, hhi⟩ := (ofOp_eq_none_iff op).mp hnone
  rcases h with h | rfl
  · exact absurd (BitVec.le_trans hlo h) (by decide)
  · exact absurd hhi (by decide)

/-- Any 1 among bits 31:4 makes a word reserved, whatever its opcode (R84). -/
theorem decodeWord_of_reservedBits {w : Word} (h : w.extractLsb' 4 28 ≠ 0) : decodeWord w = .rejected .reservedBits :=
  if_pos h

theorem decodeWord_of_reservedOp {w : Word} (h : w.extractLsb' 4 28 = 0) (hlo : 0x6 ≤ w.extractLsb' 0 4)
    (hhi : w.extractLsb' 0 4 ≤ 0xE) : decodeWord w = .rejected .reservedOp := by
  simp [decodeWord, Cmd32.decode, Cmd32.ofWord, h, (ofOp_eq_none_iff _).mpr ⟨hlo, hhi⟩]

theorem decodeWord_of_ofOp {w : Word} {i : Instr} (h : w.extractLsb' 4 28 = 0)
    (hop : Instr.ofOp (w.extractLsb' 0 4) = some i) : decodeWord w = .command i := by
  simp [decodeWord, Cmd32.decode, Cmd32.ofWord, h, hop]

@[simp] theorem decodeWord_encode (i : Instr) : decodeWord (encode i) = .command i := by
  cases i <;> rfl

/-- A word is its two fields (R81). -/
theorem word_ofWord (w : Word) : (Cmd32.ofWord w).word = w := by
  simp only [Cmd32.word, Cmd32.ofWord]
  rw [BitVec.extractLsb'_append_extractLsb'_eq_extractLsb' (by decide)]
  exact BitVec.extractLsb'_eq_self

/-- With bits 31:4 zero, the opcode alone makes the word a command's word (R82). -/
theorem eq_encode_of_ofOp {w : Word} {i : Instr} (h : w.extractLsb' 4 28 = 0)
    (hop : Instr.ofOp (w.extractLsb' 0 4) = some i) : w = encode i := by
  rw [encode, (ofOp_eq_some_iff _ _).mp hop, ← h]
  exact (word_ofWord w).symm

/-- A word that is no command's word and has bits 31:4 zero holds a reserved opcode (R84). -/
theorem reservedOp_of_ne_encode {w : Word} (hw : ∀ i : Instr, w ≠ encode i) (h : w.extractLsb' 4 28 = 0) :
    0x6 ≤ w.extractLsb' 0 4 ∧ w.extractLsb' 0 4 ≤ 0xE :=
  (ofOp_eq_none_iff _).mp (Option.eq_none_iff_forall_ne_some.mpr fun i hop => hw i (eq_encode_of_ofOp h hop))

end Sys2Proof

namespace Sys2Proof.Machine

/-! ### A CMD write, by the line of R80 that decides it -/

theorem writeCmd_of_pending {s : State} (h : s.pending ≠ none) (v : Word) : s.writeCmd v = s.commandError .busy v :=
  if_pos (Option.isSome_iff_ne_none.mpr h)

theorem writeCmd_of_reservedBits {s : State} {v : Word} (h : s.pending = none)
    (hd : decodeWord v = .rejected .reservedBits) : s.writeCmd v = s.commandError .reservedBits v := by
  simp [State.writeCmd, State.busy, h, hd]

theorem writeCmd_of_reservedOp {s : State} {v : Word} (h : s.pending = none)
    (hd : decodeWord v = .rejected .reservedOp) : s.writeCmd v = s.commandError .reservedOp v := by
  simp [State.writeCmd, State.busy, h, hd]

theorem writeCmd_of_command {s : State} {v : Word} {i : Instr} (h : s.pending = none)
    (hd : decodeWord v = .command i) : s.writeCmd v = s.accept i := by
  simp [State.writeCmd, State.busy, h, hd]

/-- A write at offset 0x000 is a CMD write, over the sequencer's hidden progress (R80). -/
theorem hostWrite_cmd (s : State) (v : Word) : s.hostWrite 0x000 4 v = .next (s.workInFlight.writeCmd v) :=
  hostWrite_offset s .cmd v

/-- With no command in flight there is no hidden progress, so a CMD write acts on the state itself. -/
theorem hostWrite_cmd_idle {s : State} (h : s.pending = none) (v : Word) :
    s.hostWrite 0x000 4 v = .next (s.writeCmd v) := by
  rw [hostWrite_cmd, workInFlight_idle h]

/-- A CommandError over the sequencer's hidden progress has the effect it has without it: that progress is invisible. -/
theorem commandError_workInFlight_effect (s : State) (reason : ErrReason) (v : Word) :
    CommandErrorEffect reason v s (s.workInFlight.commandError reason v) := by
  obtain ⟨herr, hfirst, hlater, hdone, hempty, hpending, hregs, hout⟩ := commandError_effect s.workInFlight reason v
  simp only [err_workInFlight, errCause_workInFlight, errWord_workInFlight, done_workInFlight, empty_workInFlight,
    pending_workInFlight] at hfirst hlater hdone hempty hpending
  exact ⟨herr, hfirst, hlater, hdone, hempty, hpending, (sameRegsBut_workInFlight _ s).trans hregs,
    (sameOutside_workInFlight s).trans hout⟩

/-- A CMD write with a command in flight is rejected as BUSY, whatever its word (R86). -/
theorem exists_hostWrite_cmd_busy {s : State} (h : s.pending ≠ none) (v : Word) :
    ∃ t, s.hostWrite 0x000 4 v = .next t ∧ CommandErrorEffect .busy v s t := by
  refine ⟨_, ?_, commandError_workInFlight_effect s .busy v⟩
  rw [hostWrite_cmd, writeCmd_of_pending (by rwa [pending_workInFlight])]

theorem exists_hostWrite_cmd_reservedBits {s : State} {v : Word} (h : s.pending = none)
    (hv : v.extractLsb' 4 28 ≠ 0) :
    ∃ t, s.hostWrite 0x000 4 v = .next t ∧ CommandErrorEffect .reservedBits v s t := by
  refine ⟨_, ?_, commandError_effect s .reservedBits v⟩
  rw [hostWrite_cmd_idle h, writeCmd_of_reservedBits h (decodeWord_of_reservedBits hv)]

theorem exists_hostWrite_cmd_reservedOp {s : State} {v : Word} (h : s.pending = none) (hv : v.extractLsb' 4 28 = 0)
    (hlo : 0x6 ≤ v.extractLsb' 0 4) (hhi : v.extractLsb' 0 4 ≤ 0xE) :
    ∃ t, s.hostWrite 0x000 4 v = .next t ∧ CommandErrorEffect .reservedOp v s t := by
  refine ⟨_, ?_, commandError_effect s .reservedOp v⟩
  rw [hostWrite_cmd_idle h, writeCmd_of_reservedOp h (decodeWord_of_reservedOp hv hlo hhi)]

theorem hostWrite_cmd_of_ofOp {s : State} {v : Word} {i : Instr} (h : s.pending = none) (hv : v.extractLsb' 4 28 = 0)
    (hop : Instr.ofOp (v.extractLsb' 0 4) = some i) : s.hostWrite 0x000 4 v = .next (s.accept i) := by
  rw [hostWrite_cmd_idle h, writeCmd_of_command h (decodeWord_of_ofOp hv hop)]

/-! ### O3, O4 -/

/-- Settles O3: the decoder answers a command for the seven words, and a word that is none of them has a 1 among bits 31:4
or else a reserved opcode. -/
theorem reservedWordsAreIllegal : Obligations.ReservedWordsAreIllegal := by
  unfold Obligations.ReservedWordsAreIllegal
  refine ⟨decodeWord_encode, fun w hw s hidle => ⟨exists_hostWrite_cmd_reservedBits hidle, fun hmbz => ?_⟩⟩
  obtain ⟨hlo, hhi⟩ := reservedOp_of_ne_encode hw hmbz
  exact ⟨hlo, hhi, exists_hostWrite_cmd_reservedOp hidle hmbz hlo hhi⟩

/-- Settles O4: one lemma per line of R80; the accepted word's opcode is its command's, and the rest is what acceptance
leaves. -/
theorem cmdWriteDecodes : Obligations.CmdWriteDecodes := by
  unfold Obligations.CmdWriteDecodes
  refine fun s v => ⟨fun hbusy => exists_hostWrite_cmd_busy hbusy v, exists_hostWrite_cmd_reservedBits,
    exists_hostWrite_cmd_reservedOp, fun hidle hmbz hlegal => ?_⟩
  obtain ⟨i, hi⟩ := exists_ofOp_eq_some hlegal
  exact ⟨s.accept i, i, hostWrite_cmd_of_ofOp hidle hmbz hi, (ofOp_eq_some_iff _ i).mp hi, rfl, rfl, rfl, rfl, rfl,
    readReg_accept s i, rfl, rfl⟩

/-! ### The host's turn, by the statement the host is at -/

section
variable {r : HostRun} (hrun : r.halted = false)
include hrun

/-- `wr` is one bus write at the register's offset (R87). -/
theorem hostTurn_wr {reg : Reg} {imm : Word} (h : r.prog[r.next]? = some (.wr reg imm)) :
    hostTurn r = .next { r with engine := r.engine.workInFlight.writeReg reg imm, next := r.next + 1 } := by
  simp [hostTurn, hrun, h, takeEvent, HostRun.afterAccess]

/-- `rd` is one bus read at the register's offset, whose value the host keeps in hN (R87). -/
theorem hostTurn_rd {n : Fin 8} {reg : Reg} (h : r.prog[r.next]? = some (.rd n reg)) :
    hostTurn r = .next
      { r with
        engine := r.engine.workInFlight.latch (r.engine.readReg reg), next := r.next + 1,
        scratch := r.scratch.set n.val (r.engine.readReg reg) } := by
  simp [hostTurn, hrun, h, takeEvent, HostRun.latchRead]

theorem hostTurn_bit1 {n : Fin 8} {k : Fin 32} {label : Nat} (h : r.prog[r.next]? = some (.bit1 n k label)) :
    hostTurn r = .next { r with next := if (r.scratch[n]).getLsbD k.val then label else r.next + 1 } := by
  simp [hostTurn, hrun, h]

theorem hostTurn_bit0 {n : Fin 8} {k : Fin 32} {label : Nat} (h : r.prog[r.next]? = some (.bit0 n k label)) :
    hostTurn r = .next { r with next := if (r.scratch[n]).getLsbD k.val = false then label else r.next + 1 } := by
  simp only [hostTurn, hrun, h]
  cases (r.scratch[n]).getLsbD k.val <;> rfl

theorem hostTurn_halt (h : r.prog[r.next]? = some .halt) : hostTurn r = .next { r with halted := true } := by
  simp [hostTurn, hrun, h]

end

/-! ### O56 -/

/-- Settles O56: one lemma per statement of R87; the accesses of `wr` and `rd` are at a register's offset, so the engine
answers them. -/
theorem hostStatementsMeanTheirAccesses : Obligations.HostStatementsMeanTheirAccesses := by
  unfold Obligations.HostStatementsMeanTheirAccesses
  intro r hrun
  exact ⟨fun reg imm h => ⟨_, hostWrite_offset r.engine reg imm, hostTurn_wr hrun h⟩,
    fun _ reg h => ⟨_, hostRead_offset r.engine reg, hostTurn_rd hrun h⟩,
    fun _ _ _ h => hostTurn_bit1 hrun h, fun _ _ _ h => hostTurn_bit0 hrun h, hostTurn_halt hrun⟩

end Sys2Proof.Machine
end

section
/-! SUPPORT. The constant tables (40_tables.md): CON_SALT and COV_2CHAR invert each other. -/

namespace Sys2Proof.Machine

/-- A nonzero CON_SALT value is its byte's position in COV_2CHAR (40_tables.md R101, R104): the converse of
`conSalt_lookup`. -/
theorem lookup_conSalt_of_ne_zero {b : Byte} (h : conSalt b ≠ 0) : cov2char.lookup (conSalt b) = b := by
  revert b; decide +kernel

/-! ### O25 -/

/-- Settles O25: an alphabet character is a table entry, which CON_SALT inverts; a byte that no entry holds cannot have a
nonzero value, for that value would be its position. -/
theorem saltMapInvertsTheAlphabet : Obligations.SaltMapInvertsTheAlphabet := by
  unfold Obligations.SaltMapInvertsTheAlphabet
  intro b
  by_cases hb : ∃ i : Sextet, cov2char.lookup i = b
  · obtain ⟨i, rfl⟩ := hb
    exact .inl ⟨i, rfl, conSalt_lookup i⟩
  · have hnone : ∀ i : Sextet, cov2char.lookup i ≠ b := not_exists.mp hb
    exact .inr ⟨hnone, by_contra fun hne => hnone _ (lookup_conSalt_of_ne_zero hne)⟩

end Sys2Proof.Machine
end

section
/-! SUPPORT. Acceptance, said once for every command (30_encoding.md R80), and the key schedule's corner cases
(42_key_scheduler.md R138, R140): which bits of the secret it reads, and what it makes of key halves the rotations keep. -/

namespace Sys2Proof.Machine

/-! ### Acceptance -/

theorem hostWrite_cmd_of_command {s : State} {w : Word} {i : Instr} (h : s.pending = none)
    (hd : decodeWord w = .command i) : s.hostWrite 0x000 4 w = .next (s.accept i) := by
  rw [hostWrite_cmd_idle h, writeCmd_of_command h hd]

/-- Every command's word is accepted as that command, and is rejected as BUSY while another is in flight. -/
theorem acceptedAs_of_decodeWord {w : Word} {i : Instr} (hd : decodeWord w = .command i) : AcceptedAs w i :=
  ⟨fun s hidle => ⟨s.accept i, hostWrite_cmd_of_command hidle hd, rfl, rfl, rfl, rfl, rfl, readReg_accept s i, rfl, rfl⟩,
    fun _ hbusy => exists_hostWrite_cmd_busy hbusy w, fun _ _ hp => operands_pending hp⟩

/-! ### The bits of the secret the schedule reads -/

/-- A key byte drops bit 7 of its secret byte (R130). -/
theorem shiftLeft_one_eq_of_low_bits {a b : Byte} (h : a.extractLsb' 0 7 = b.extractLsb' 0 7) : a <<< 1 = b <<< 1 := by
  have hshift (x : Byte) : x <<< 1 = x.extractLsb' 0 7 ++ 0#1 := by revert x; decide +kernel
  rw [hshift, hshift, h]

/-- Bits 6:0 of the secret bytes in use fix the key bytes (R130). -/
theorem keyByte_congr {s0 s1 u0 u1 : Word} {len len' : BitVec 8} (hcount : secretCount len = secretCount len')
    {k : Fin 8} (hbits : k.val < secretCount len →
      (secretByte s0 s1 k).extractLsb' 0 7 = (secretByte u0 u1 k).extractLsb' 0 7) :
    keyByte s0 s1 len k = keyByte u0 u1 len' k := by
  unfold keyByte
  rw [← hcount]
  split
  · next hk => exact shiftLeft_one_eq_of_low_bits (hbits hk)
  · rfl

theorem keySched_eq_of_packKey_eq {s0 s1 u0 u1 : Word} {len len' : BitVec 8}
    (h : packKey s0 s1 len = packKey u0 u1 len') : keySched s0 s1 len = keySched u0 u1 len' := by
  simp only [keySched, h]

/-- The schedule is a function of the key bytes, so of bits 6:0 of the secret bytes in use (R138). -/
theorem keySched_congr {s0 s1 u0 u1 : Word} {len len' : BitVec 8} (hcount : secretCount len = secretCount len')
    (hbits : ∀ k : Fin 8, k.val < secretCount len →
      (secretByte s0 s1 k).extractLsb' 0 7 = (secretByte u0 u1 k).extractLsb' 0 7) :
    keySched s0 s1 len = keySched u0 u1 len' := by
  have hkb : keyByte s0 s1 len = keyByte u0 u1 len' := funext fun k => keyByte_congr hcount (hbits k)
  exact keySched_eq_of_packKey_eq (by simp only [packKey, hkb])

/-- A length above 8 counts as 8 (10_state.md R27). -/
theorem secretCount_of_le {len : BitVec 8} (h : 8 ≤ len) : secretCount len = 8 :=
  Nat.min_eq_right (BitVec.le_def.mp h)

/-- Clearing bit 7 of every byte of a word leaves bits 6:0 of each as they are. -/
theorem byteOfWord_and_low_bits (w : Word) {k : Nat} (hk : k < 4) :
    (byteOfWord (w &&& 0x7F7F7F7F) k).extractLsb' 0 7 = (byteOfWord w k).extractLsb' 0 7 := by
  have hmask : (byteOfWord 0x7F7F7F7F k).extractLsb' 0 7 = BitVec.allOnes 7 := by interval_cases k <;> rfl
  simp only [byteOfWord] at hmask ⊢
  rw [BitVec.extractLsb'_and, BitVec.extractLsb'_and, hmask, BitVec.and_allOnes]

theorem secretByte_and_low_bits (s0 s1 : Word) (k : Fin 8) :
    (secretByte (s0 &&& 0x7F7F7F7F) (s1 &&& 0x7F7F7F7F) k).extractLsb' 0 7 = (secretByte s0 s1 k).extractLsb' 0 7 := by
  unfold secretByte
  split
  · next hk => exact byteOfWord_and_low_bits s0 hk
  · exact byteOfWord_and_low_bits s1 (by omega)

/-! ### Key halves that the rotations keep -/

/-- If every rotation keeps the key halves, every key round appends the same two subkeys. -/
theorem getElem?_keyRounds_of_fixed {h : KeyHalves} (hfix : ∀ flag, rotateKey flag h = h) {flags : List (BitVec 1)}
    {k : Nat} (hk : k < flags.length) :
    (keyRounds flags h)[2 * k]? = some (subkeyEven (compressC h.c) (compressD h.d)) ∧
    (keyRounds flags h)[2 * k + 1]? = some (subkeyOdd (compressC h.c) (compressD h.d)) := by
  induction flags generalizing k with
  | nil => exact absurd hk (Nat.not_lt_zero k)
  | cons flag flags ih =>
    simp only [keyRounds, hfix]
    cases k with
    | zero => exact ⟨rfl, rfl⟩
    | succ k => exact ih (Nat.lt_of_succ_lt_succ hk)

theorem getElem_keySched (s0 s1 : Word) (len : BitVec 8) {i : Nat} (hi : i < 32) :
    (keySched s0 s1 len)[i] =
      (keyRounds shifts2.toList (permuteKey (packKey s0 s1 len)))[i]'(by rw [keyRounds_length]; exact hi) := rfl

/-- The schedule of a secret whose key halves every rotation keeps: the same two words in all sixteen rounds. -/
theorem getElem_keySched_of_fixed {s0 s1 : Word} {len : BitVec 8} {h : KeyHalves}
    (hkey : permuteKey (packKey s0 s1 len) = h) (hfix : ∀ flag, rotateKey flag h = h) (k : Fin 16) :
    (keySched s0 s1 len)[2 * k.val]'(by omega) = subkeyEven (compressC h.c) (compressD h.d) ∧
    (keySched s0 s1 len)[2 * k.val + 1]'(by omega) = subkeyOdd (compressC h.c) (compressD h.d) := by
  obtain ⟨heven, hodd⟩ := getElem?_keyRounds_of_fixed hfix (flags := shifts2.toList) (k := k.val) k.isLt
  simp only [getElem_keySched, hkey]
  exact ⟨(List.getElem?_eq_some_iff.mp heven).2, (List.getElem?_eq_some_iff.mp hodd).2⟩

/-- With no secret byte in use every key byte is zero (R130). -/
theorem packKey_empty (s0 s1 : Word) : packKey s0 s1 0 = ⟨0, 0⟩ := by
  have hkb (k : Fin 8) : keyByte s0 s1 0 k = 0 := if_neg (Nat.not_lt_zero _)
  simp only [packKey, hkb]
  rfl

/-- The empty secret's schedule (R140, "treated as all-zero key material"). -/
theorem keySched_empty (s0 s1 : Word) : keySched s0 s1 0 = Vector.replicate 32 0 := by
  have hkey : permuteKey (packKey s0 s1 0) = ⟨0, 0⟩ := by rw [packKey_empty]; decide +kernel
  have hwords := getElem_keySched_of_fixed hkey (by decide)
  have heven : subkeyEven (compressC 0) (compressD 0) = 0 := by decide +kernel
  have hodd : subkeyOdd (compressC 0) (compressD 0) = 0 := by decide +kernel
  ext1 i hi
  rw [Vector.getElem_replicate]
  obtain ⟨k, rfl | rfl⟩ := Nat.even_or_odd' i
  · exact (hwords ⟨k, by omega⟩).1.trans heven
  · exact (hwords ⟨k, by omega⟩).2.trans hodd

/-- The schedule of all-ones key bits (R140, vector KS-T4). -/
theorem getElem_keySched_allOnes (k : Fin 16) :
    (keySched 0xFFFFFFFF 0xFFFFFFFF 8)[2 * k.val]'(by omega) = 0x3F3F3F3F ∧
    (keySched 0xFFFFFFFF 0xFFFFFFFF 8)[2 * k.val + 1]'(by omega) = 0xF3F3F3F3 := by
  have hkey : permuteKey (packKey 0xFFFFFFFF 0xFFFFFFFF 8) = ⟨0x0FFFFFFF, 0x0FFFFFFF⟩ := by decide +kernel
  obtain ⟨heven, hodd⟩ := getElem_keySched_of_fixed hkey (by decide) k
  exact ⟨heven.trans (by decide +kernel), hodd.trans (by decide +kernel)⟩

/-! ### O18 -/

/-- What KEYSCHED's commit shows: KS and STATUS, and no other register. -/
theorem sameRegsBut_commit_withKs (s : State) (ks : Vector Word 32) :
    SameRegsBut (.status :: ksRegs) s (s.withKs ks).commit :=
  ((sameRegsBut_withKs s ks).mono fun _ => List.mem_cons_of_mem _).trans
    ((readReg_commit _).mono fun _ h => List.mem_cons.mpr (.inl (List.mem_singleton.mp h)))

/-- Settles O18: the word is KEYSCHED's, whose commit writes KS alone; a long secret and one with bit 7 set have the key
bytes of the secret they are compared with; and the zero and the all-ones key halves are kept by every rotation. -/
theorem keyschedCommitsTheSchedule : Obligations.KeyschedCommitsTheSchedule := by
  unfold Obligations.KeyschedCommitsTheSchedule
  refine ⟨acceptedAs_of_decodeWord (decodeWord_encode .keysched), fun s => ?_, keySched_empty, fun s0 s1 len hlen => ?_,
    fun s0 s1 len => ?_, getElem_keySched_allOnes⟩
  · exact ⟨_, exec_keysched s, rfl, ⟨rfl, rfl, rfl, rfl⟩, sameRegsBut_commit_withKs s _, rfl, rfl⟩
  · exact keySched_congr (secretCount_of_le hlen) fun _ _ => rfl
  · exact keySched_congr rfl fun k _ => secretByte_and_low_bits s0 s1 k

end Sys2Proof.Machine
end

section
/-! SUPPORT. The fields of the effective salt and its masks (43_salt_mixer.md R151 to R153), and what SALTMIX's commit
shows. -/

namespace Sys2Proof.Machine

/-! ### The effective salt and its masks -/

theorem effectiveSalt_of_empty {x : BitVec 18} (h : saltLen x = 0) : effectiveSalt x = 0 := by
  rcases effectiveSalt_cases x with ⟨-, he⟩ | ⟨hl, -⟩ | ⟨hl, -⟩
  · exact he
  · rw [h] at hl; exact absurd hl (by decide)
  · exact absurd h hl

theorem effCh0_effectiveSalt {x : BitVec 18} (h : saltLen x ≠ 0) : effCh0 (effectiveSalt x) = saltCh0 x := by
  rcases effectiveSalt_cases x with ⟨hl, -⟩ | ⟨-, he⟩ | ⟨-, -, he⟩
  · exact absurd hl h
  · rw [he]; exact effCh0_packed _ _
  · rw [he]; exact effCh0_packed _ _

/-- One character counts twice (R152). -/
theorem effCh1_effectiveSalt {x : BitVec 18} (h : saltLen x ≠ 0) :
    effCh1 (effectiveSalt x) = if saltLen x = 1 then saltCh0 x else saltCh1 x := by
  rcases effectiveSalt_cases x with ⟨hl, -⟩ | ⟨hl, he⟩ | ⟨-, hl, he⟩
  · exact absurd hl h
  · rw [he, if_pos hl]; exact effCh1_packed _ _
  · rw [he, if_neg hl]; exact effCh1_packed _ _

@[simp] theorem swapMask0_zero : swapMask0 0#17 = 0#32 := rfl

@[simp] theorem swapMask1_zero : swapMask1 0#17 = 0#32 := rfl

theorem swapMask0_of_valid {eff : BitVec 17} (h : effValid eff = true) :
    swapMask0 eff = (conSalt (effCh0 eff)).setWidth 32 := if_pos h

theorem swapMask1_of_valid {eff : BitVec 17} (h : effValid eff = true) :
    swapMask1 eff = (conSalt (effCh1 eff)).setWidth 32 <<< 4 := if_pos h

/-! ### O19 -/

/-- What SALTMIX's commit shows: SALT_EFF, the two masks and STATUS, and no other register. -/
theorem sameRegsBut_commit_withMasks (s : State) (e0 e1 : Word) (eff : BitVec 17) :
    SameRegsBut [.status, .saltEff, .eswap0, .eswap1] s (s.withMasks e0 e1 eff).commit :=
  ((sameRegsBut_withMasks s e0 e1 eff).mono fun _ => List.mem_cons_of_mem _).trans
    ((readReg_commit _).mono fun _ h => List.mem_cons.mpr (.inl (List.mem_singleton.mp h)))

/-- Settles O19: the word is SALTMIX's, whose commit writes the effective salt and its two masks alone; the empty salt's
are zero, and any other salt's effective salt is valid, so its masks are its characters' table values. -/
theorem saltmixCommitsTheMasks : Obligations.SaltmixCommitsTheMasks := by
  unfold Obligations.SaltmixCommitsTheMasks
  refine ⟨acceptedAs_of_decodeWord (decodeWord_encode .saltmix), fun s => ⟨_, exec_saltmix s, fun hempty => ?_,
    fun hsalt => ?_, ⟨rfl, rfl, rfl, rfl⟩, sameRegsBut_commit_withMasks s _ _ _, rfl, rfl⟩⟩
  · simp [effectiveSalt_of_empty hempty]
  · have hvalid := (effValid_effectiveSalt s.operands.salt).mpr hsalt
    exact ⟨hvalid, effCh0_effectiveSalt hsalt, effCh1_effectiveSalt hsalt, swapMask0_of_valid hvalid,
      swapMask1_of_valid hvalid⟩

end Sys2Proof.Machine
end

section
/-! SUPPORT. ENCRYPT written to CMD and waited for, and written again (44_feistel.md R171, 95_test_vectors.md FE-6). -/

namespace Sys2Proof.Machine

/-- The commit of a command shows, beside the registers the command wrote, in STATUS alone. -/
theorem SameRegsBut.commit {ex : List Reg} {s u : State} (h : SameRegsBut ex s u) :
    SameRegsBut (.status :: ex) s u.commit :=
  (h.mono fun _ => List.mem_cons_of_mem _).trans
    ((readReg_commit u).mono fun _ hr => List.mem_cons.mpr (.inl (List.mem_singleton.mp hr)))

/-- ENCRYPT written to an idle engine and waited for: the snapshot its acceptance takes is of the state itself. -/
theorem runCommand_encrypt {s : State} (h : s.pending = none) :
    let out := encryptBlock ⟨s.ks, s.eswap0, s.eswap1⟩
    runCommand .encrypt s = .next ((s.accept .encrypt).withOut out.l out.r).commit :=
  (runCommand_idle h).trans (exec_encrypt (s.accept .encrypt))

/-- A command whose OUT stands in the registers already, committed over an idle engine with DONE set, shows nowhere: its
acceptance clears DONE and sets BUSY, and its commit undoes both. -/
theorem sameRegsBut_recommit_out {t : State} (hidle : t.pending = none) (hdone : t.done = true) (i : Instr) :
    SameRegsBut [] t ((t.accept i).withOut t.out0 t.out1).commit := by
  intro r _
  cases r
  case status => simp [State.readReg, State.statusWord, State.busy, hidle, hdone]
  all_goals rfl

/-- The reset state's schedule and masks, the words of vector FE-6. -/
theorem encryptBlock_zero : encryptBlock ⟨Vector.replicate 32 0, 0, 0⟩ = ⟨0xE94DA68C, 0xA723B1C1⟩ := by
  decide +kernel

/-! ### O20 -/

/-- ENCRYPT writes none of its own operands, so a second one finds its ciphertext in OUT0 and OUT1. -/
theorem runCommand_encrypt_twice {s : State} (h : s.pending = none) :
    ∃ t u, runCommand .encrypt s = .next t ∧ runCommand .encrypt t = .next u ∧ SameRegsBut [] t u :=
  ⟨_, _, runCommand_encrypt h, runCommand_encrypt rfl, sameRegsBut_recommit_out rfl rfl .encrypt⟩

/-- Settles O20: the word is ENCRYPT's, whose commit writes OUT0 and OUT1 alone, from operands it keeps. -/
theorem encryptCommitsTheCiphertext : Obligations.EncryptCommitsTheCiphertext := by
  unfold Obligations.EncryptCommitsTheCiphertext
  refine ⟨acceptedAs_of_decodeWord (decodeWord_encode .encrypt), fun s => ?_, fun s => runCommand_encrypt_twice, ?_⟩
  · exact ⟨_, exec_encrypt s, rfl, rfl, ⟨rfl, rfl, rfl, rfl⟩, (sameRegsBut_withOut s _ _).commit, rfl, rfl⟩
  · exact ⟨_, runCommand_encrypt rfl, congrArg Halves.l encryptBlock_zero, congrArg Halves.r encryptBlock_zero⟩

end Sys2Proof.Machine
end

section
/-! SUPPORT. The encoder's groups as fields of the output bytes, the characters of a committed result, and what ENCODE's
commit shows (45_encoder.md R180 to R182). -/

namespace Sys2Proof.Machine

/-! ### The groups as fields of the bytes -/

theorem getLsbD_streamBit (ob : Vector Byte 9) (n : Fin 72) (i : Nat) :
    (streamBit ob n).getLsbD i = (decide (i = 0) && (ob[n.val / 8]'(by omega)).getLsbD (7 - n.val % 8)) := by
  unfold streamBit
  split <;> simp [*]

/-- A group's first bit of the stream is its most significant one (R181). -/
theorem getLsbD_groupValue (ob : Vector Byte 9) (g : Fin 11) {i : Nat} (hi : i < 6) :
    (groupValue ob g).getLsbD i = (ob[(6 * g.val + (5 - i)) / 8]'(by omega)).getLsbD (7 - (6 * g.val + (5 - i)) % 8) := by
  simp only [groupValue, BitVec.getLsbD_or, BitVec.getLsbD_shiftLeft, getLsbD_streamBit]
  interval_cases i <;> simp

/-- A group that ends at bit lo of byte k and lies within it is the byte's six bits from there (R181, the table). -/
theorem groupValue_within_byte (ob : Vector Byte 9) {g : Fin 11} {k lo : Nat} (hend : 6 * g.val + 5 + lo = 8 * k + 7)
    (hlo : lo ≤ 2) : groupValue ob g = (ob[k]'(by omega)).extractLsb' lo 6 := by
  apply BitVec.eq_of_getLsbD_eq
  intro i hi
  rw [getLsbD_groupValue ob g hi, BitVec.getLsbD_extractLsb']
  have hbyte : (6 * g.val + (5 - i)) / 8 = k := by omega
  have hbit : 7 - (6 * g.val + (5 - i)) % 8 = lo + i := by omega
  simp [hbyte, hbit, hi]

/-- A group whose first n bits end byte k is these, then the first m = 6 - n bits of byte k + 1. -/
theorem groupValue_across_bytes (ob : Vector Byte 9) {g : Fin 11} {k n m : Nat} (hsplit : 6 * g.val + n = 8 * k + 8)
    (hnm : n + m = 6) :
    groupValue ob g =
      ((ob[k]'(by omega)).extractLsb' 0 n ++ (ob[k + 1]'(by omega)).extractLsb' (8 - m) m).cast hnm := by
  apply BitVec.eq_of_getLsbD_eq
  intro i hi
  rw [getLsbD_groupValue ob g hi, BitVec.getLsbD_cast, BitVec.getLsbD_append, BitVec.getLsbD_extractLsb',
    BitVec.getLsbD_extractLsb']
  by_cases hlow : i < m
  · have hbyte : (6 * g.val + (5 - i)) / 8 = k + 1 := by omega
    have hbit : 7 - (6 * g.val + (5 - i)) % 8 = 8 - m + i := by omega
    simp [hbyte, hbit, hlow]
  · have hbyte : (6 * g.val + (5 - i)) / 8 = k := by omega
    have hbit : 7 - (6 * g.val + (5 - i)) % 8 = i - m := by omega
    have hhigh : i - m < n := by omega
    simp [hbyte, hbit, hlow, hhigh]

/-- The last group ends in the two padding bits, which are the zero byte's (R181). -/
theorem groupValue_outBytes_last (out0 out1 : Word) :
    groupValue (outBytes out0 out1) 10 = (byteOfWord out1 3).extractLsb' 0 4 ++ (0 : BitVec 2) := by
  have hpad : (0 : BitVec 2) = (0x00 : Byte).extractLsb' 6 2 := by decide
  rw [hpad]
  exact groupValue_across_bytes (outBytes out0 out1) (g := 10) (k := 7) (n := 4) (m := 2) rfl rfl

/-! ### The characters of a committed result -/

theorem encodeResult_of_valid {eff : BitVec 17} (h : effValid eff = true) (out0 out1 : Word) :
    encodeResult eff out0 out1 = charResult eff (outBytes out0 out1) := if_pos h

theorem encodeResult_of_invalid {eff : BitVec 17} (h : effValid eff = false) (out0 out1 : Word) :
    encodeResult eff out0 out1 = emptyResult := if_neg (by simp [h])

/-- Character 0 is the first salt byte, verbatim (R181). -/
theorem resultChar_zero_of_charResult (s : State) (eff : BitVec 17) (ob : Vector Byte 9) :
    (s.withResult (charResult eff ob)).commit.resultChar 0 = effCh0 eff := byteOfWord_wordOfBytes_0 ..

/-- Character 1 is the second salt byte, verbatim (R181). -/
theorem resultChar_one_of_charResult (s : State) (eff : BitVec 17) (ob : Vector Byte 9) :
    (s.withResult (charResult eff ob)).commit.resultChar 1 = effCh1 eff := byteOfWord_wordOfBytes_1 ..

/-- Character 2 + g is group g's (R181). -/
theorem resultChar_add_two_of_charResult (s : State) (eff : BitVec 17) (ob : Vector Byte 9) (g : Fin 11) :
    (s.withResult (charResult eff ob)).commit.resultChar ⟨g.val + 2, by omega⟩ = groupChar ob g := by
  match g with
  | 0 | 4 | 8 => exact byteOfWord_wordOfBytes_2 ..
  | 1 | 5 | 9 => exact byteOfWord_wordOfBytes_3 ..
  | 2 | 6 => exact byteOfWord_wordOfBytes_0 ..
  | 3 | 7 => exact byteOfWord_wordOfBytes_1 ..
  | 10 => rfl

theorem resultChar_of_groupValue_eq {s : State} {eff : BitVec 17} {ob : Vector Byte 9} {g : Fin 11} {x : Sextet}
    (hx : groupValue ob g = x) :
    (s.withResult (charResult eff ob)).commit.resultChar ⟨g.val + 2, by omega⟩ = cov2char.lookup x :=
  (resultChar_add_two_of_charResult s eff ob g).trans (congrArg cov2char.lookup hx)

/-! ### O21, O22 -/

theorem exec_encode_of_valid {s : State} (h : effValid s.operands.saltEff = true) :
    exec .encode s =
      .next (s.withResult (charResult s.operands.saltEff (outBytes s.operands.out0 s.operands.out1))).commit := by
  rw [exec_encode, encodeResult_of_valid h]

/-- Settles O21: the word is ENCODE's, whose commit writes the result's registers and EMPTY alone; the effective salt's
VALID decides between the empty result and the 13 characters. -/
theorem encodeCommitsTheResult : Obligations.EncodeCommitsTheResult := by
  unfold Obligations.EncodeCommitsTheResult
  refine ⟨acceptedAs_of_decodeWord (decodeWord_encode .encode), fun s => ⟨_, exec_encode s, fun hinvalid => ?_,
    fun hvalid => ?_, ⟨rfl, rfl, rfl, rfl⟩, (sameRegsBut_withResult s _).commit.mono (by simp), rfl, rfl⟩⟩
  · rw [encodeResult_of_invalid hinvalid]
    exact ⟨rfl, rfl, rfl, rfl, rfl, rfl⟩
  · rw [encodeResult_of_valid hvalid]
    exact ⟨rfl, rfl, rfl, rfl, rfl, rfl⟩

/-- Settles O22: each character is its group's, and a group is a field of one byte or the end of one byte and the beginning
of the next, as its place in the stream gives it. -/
theorem encodeWalksTheGroups : Obligations.EncodeWalksTheGroups := by
  unfold Obligations.EncodeWalksTheGroups
  intro s hvalid
  exact ⟨_, exec_encode_of_valid hvalid, resultChar_zero_of_charResult s _ _, resultChar_one_of_charResult s _ _,
    resultChar_of_groupValue_eq (g := 0) (groupValue_within_byte _ (k := 0) rfl (by decide)),
    resultChar_of_groupValue_eq (g := 1) (groupValue_across_bytes _ (k := 0) (n := 2) (m := 4) rfl rfl),
    resultChar_of_groupValue_eq (g := 2) (groupValue_across_bytes _ (k := 1) (n := 4) (m := 2) rfl rfl),
    resultChar_of_groupValue_eq (g := 3) (groupValue_within_byte _ (k := 2) rfl (by decide)),
    resultChar_of_groupValue_eq (g := 4) (groupValue_within_byte _ (k := 3) rfl (by decide)),
    resultChar_of_groupValue_eq (g := 5) (groupValue_across_bytes _ (k := 3) (n := 2) (m := 4) rfl rfl),
    resultChar_of_groupValue_eq (g := 6) (groupValue_across_bytes _ (k := 4) (n := 4) (m := 2) rfl rfl),
    resultChar_of_groupValue_eq (g := 7) (groupValue_within_byte _ (k := 5) rfl (by decide)),
    resultChar_of_groupValue_eq (g := 8) (groupValue_within_byte _ (k := 6) rfl (by decide)),
    resultChar_of_groupValue_eq (g := 9) (groupValue_across_bytes _ (k := 6) (n := 2) (m := 4) rfl rfl),
    resultChar_of_groupValue_eq (groupValue_outBytes_last _ _), rfl, rfl⟩

end Sys2Proof.Machine
end

section
/-! SUPPORT. What the commands of 46_control.md that compute nothing leave in the registers: NOP its flags alone (R190),
CLEAR zeros in all but IRQ_EN and STATUS (R192). -/

namespace Sys2Proof.Machine

/-- Every register but IRQ_EN and STATUS reads 0 once scrubbed (R192). -/
theorem readReg_scrub {r : Reg} (hirq : r ≠ .irqEn) (hstatus : r ≠ .status) (s : State) : s.scrub.readReg r = 0 := by
  cases r
  case irqEn => exact absurd rfl hirq
  case status => exact absurd rfl hstatus
  case ks i => exact Vector.getElem_replicate i.isLt
  all_goals rfl

/-- STATUS right after a commit is the flags the commit leaves: BUSY 0, DONE 1, EMPTY and ERR as given (R25, R66). -/
theorem readReg_status_of_commitFlags {empty err : Bool} {t : State} (h : CommitFlags empty err t) :
    t.readReg .status = 0x00000002 ||| flagAt empty 2 ||| flagAt err 3 := by
  obtain ⟨hdone, hpending, hempty, herr⟩ := h
  have hbusy : t.busy = false := by simp [State.busy, hpending]
  have hlow : flagAt false 0 ||| flagAt true 1 = 0x00000002 := by decide
  simp only [State.readReg, State.statusWord, hbusy, hdone, hempty, herr, hlow]

/-- CLEAR's commit leaves EMPTY and ERR clear, whatever they were (R192). -/
theorem commitFlags_commit_scrub (s : State) : CommitFlags false false s.scrub.commit := ⟨rfl, rfl, rfl, rfl⟩

/-! ### O17, O24 -/

/-- Settles O17: the zero word is NOP's, and NOP's meaning is the bare commit, which shows in STATUS alone. -/
theorem nopOnlySetsDone : Obligations.NopOnlySetsDone := by
  unfold Obligations.NopOnlySetsDone
  exact ⟨acceptedAs_of_decodeWord (decodeWord_encode .nop),
    fun s => ⟨s.commit, exec_nop s, ⟨rfl, rfl, rfl, rfl⟩, readReg_commit s, rfl, rfl⟩⟩

/-- Settles O24: the word is CLEAR's, whose scrub zeroes all but IRQ_EN and STATUS; the commit after it shows in STATUS
alone, which its flags fix. -/
theorem clearScrubsAllButIrqEn : Obligations.ClearScrubsAllButIrqEn := by
  unfold Obligations.ClearScrubsAllButIrqEn
  refine ⟨acceptedAs_of_decodeWord (decodeWord_encode .clear), fun s => ⟨s.scrub.commit, exec_clear s,
    fun r hirq hstatus => ?_, rfl, ?_, commitFlags_commit_scrub s, rfl, rfl⟩⟩
  · have hcommit : s.scrub.commit.readReg r = s.scrub.readReg r := readReg_commit s.scrub r (by simp [hstatus])
    exact hcommit.trans (readReg_scrub hirq hstatus s)
  · exact readReg_status_of_commitFlags (commitFlags_commit_scrub s)

end Sys2Proof.Machine
end

section
/-! SUPPORT. The exceptions of 60_exceptions.md: what a host write leaves of a command in flight (R225), the two interrupt
sources (section 2), and which CMD writes are rejected and what a step does with the recorded error (R202, R203). -/

namespace Sys2Proof.Machine

/-! ### A command in flight -/

/-- No host write touches a command in flight: a CMD write then is a CommandError, which starts nothing (R202). -/
theorem pending_writeReg_of_pending {s : State} {p : Pending} (hp : s.pending = some p) (r : Reg) (v : Word) :
    (s.writeReg r v).pending = some p := by
  by_cases hr : r = .cmd
  · subst hr
    have hbusy : s.pending ≠ none := by simp [hp]
    calc (s.writeCmd v).pending = (s.commandError .busy v).pending := by rw [writeCmd_of_pending hbusy]
      _ = some p := by rw [pending_commandError, hp]
  · rw [pending_writeReg hr, hp]

/-! ### O47 -/

/-- Settles O47: of what a step can do, only a commit and reset reach PENDING while it holds a command. -/
theorem onlyResetEndsACommandWithoutCommit : Obligations.OnlyResetEndsACommandWithoutCommit := by
  unfold Obligations.OnlyResetEndsACommandWithoutCommit
  intro s t p hp h
  rcases step_outcomes h with rfl | ⟨r, rest, -, rfl⟩ | ⟨r, v, rest, -, rfl⟩ | ⟨q, hq, he⟩ | ⟨rest, hin, -⟩
  · exact .inl hp
  · exact .inl (by simp [hp])
  · exact .inl (pending_writeReg_of_pending (by simp [hp]) r v)
  · obtain rfl : p = q := by simpa [hp] using hq
    exact .inr (.inl he)
  · exact .inr (.inr ⟨rest, hin⟩)

/-! ### The interrupt sources -/

/-- A write at offset 0x004 is a STATUS write, over the sequencer's hidden progress (10_state.md R23, R25). -/
theorem hostWrite_status (s : State) (v : Word) : s.hostWrite 0x004 4 v = .next (s.workInFlight.writeStatus v) :=
  hostWrite_offset s .status v

/-- A write at offset 0x008 sets the two enables (10_state.md R26). -/
theorem hostWrite_irqEn (s : State) (v : Word) : s.hostWrite 0x008 4 v = .next (s.workInFlight.withIrqEn v) :=
  hostWrite_offset s .irqEn v

/-- IRQ is a level: right after the enables are written it shows the sources already set (R210). -/
theorem irq_withIrqEn (s : State) (v : Word) :
    (s.withIrqEn v).irq = ((s.done && v.getLsbD 0) || (s.err && v.getLsbD 1)) := rfl

/-! ### O16 -/

/-- Settles O16: a commit sets DONE and a CommandError sets ERR; acceptance, W1C, CLEAR and reset clear them; and the write of
the enables leaves both sources as they were. -/
theorem interruptSources : Obligations.InterruptSources := by
  unfold Obligations.InterruptSources
  intro s
  refine ⟨fun i => ?_, err_commandError s, fun _ => rfl, fun v hv => ?_, fun v hv => ?_, ⟨_, exec_clear s, rfl⟩, rfl, rfl,
    fun v => ?_⟩
  · obtain ⟨t, ht, -, hdone⟩ := exec_next i s
    exact ⟨t, ht, hdone⟩
  · exact ⟨_, hostWrite_status s v, by simp [hv]⟩
  · exact ⟨_, hostWrite_status s v, by simp [hv]⟩
  · exact ⟨_, hostWrite_irqEn s v, by rw [irq_withIrqEn, done_workInFlight, err_workInFlight]⟩

/-! ### Which CMD writes are rejected -/

/-- The condition under which a CMD write of `v` raises CommandError for the given reason (R203, in R86's order). -/
def State.RejectedFor (s : State) (v : Word) : ErrReason → Prop
  | .busy => s.pending ≠ none
  | .reservedBits => s.pending = none ∧ v.extractLsb' 4 28 ≠ 0
  | .reservedOp =>
    s.pending = none ∧ v.extractLsb' 4 28 = 0 ∧ 0x6 ≤ v.extractLsb' 0 4 ∧ v.extractLsb' 0 4 ≤ 0xE

/-- Of the state, only PENDING decides a rejection. -/
theorem rejectedFor_congr {s t : State} (h : t.pending = s.pending) (v : Word) (reason : ErrReason) :
    t.RejectedFor v reason ↔ s.RejectedFor v reason := by
  cases reason <;> simp only [State.RejectedFor, h]

theorem writeCmd_of_rejectedFor {s : State} {v : Word} {reason : ErrReason} (h : s.RejectedFor v reason) :
    s.writeCmd v = s.commandError reason v := by
  cases reason with
  | busy => exact writeCmd_of_pending h v
  | reservedBits =>
    obtain ⟨hidle, hmbz⟩ := h
    exact writeCmd_of_reservedBits hidle (decodeWord_of_reservedBits hmbz)
  | reservedOp =>
    obtain ⟨hidle, hmbz, hlo, hhi⟩ := h
    exact writeCmd_of_reservedOp hidle (decodeWord_of_reservedOp hmbz hlo hhi)

/-- A CMD write is rejected for one of the three reasons, or accepted. -/
theorem writeCmd_rejected_or_accepted (s : State) (v : Word) :
    (∃ reason, s.RejectedFor v reason) ∨ ∃ i, s.writeCmd v = s.accept i := by
  by_cases hidle : s.pending = none
  · by_cases hmbz : v.extractLsb' 4 28 = 0
    · cases hop : Instr.ofOp (v.extractLsb' 0 4) with
      | none => exact .inl ⟨.reservedOp, hidle, hmbz, (ofOp_eq_none_iff _).mp hop⟩
      | some i => exact .inr ⟨i, writeCmd_of_command hidle (decodeWord_of_ofOp hmbz hop)⟩
    · exact .inl ⟨.reservedBits, hidle, hmbz⟩
  · exact .inl ⟨.busy, hidle⟩

/-- The step of a CMD write that R203 rejects and that finds ERR = 0 records the reason and the word. -/
theorem exists_step_records_error {s : State} {v : Word} {rest : List Event} {reason : ErrReason}
    (hin : s.inputs = .write 0x000 4 v :: rest) (herr : s.err = false) (hrej : s.RejectedFor v reason) :
    ∃ t, step s = .next t ∧ t.err = true ∧ t.errCause = reason.code ∧ t.errWord = v := by
  have hrej' : (s.withInputs rest).workInFlight.RejectedFor v reason := (rejectedFor_congr (by simp) v reason).mpr hrej
  have hstep : step s = .next ((s.withInputs rest).workInFlight.commandError reason v) := by
    rw [← writeCmd_of_rejectedFor hrej', ← hostWrite_cmd]
    simp [step, hin, takeEvent]
  exact ⟨_, hstep, by simp [herr]⟩

/-! ### The recorded error -/

/-- STATUS.ERR with its capture (10_state.md R49). -/
structure ErrorRecord where
  err   : Bool
  cause : BitVec 2
  word  : Word

/-- What a state has recorded. -/
def State.errorRecord (s : State) : ErrorRecord := ⟨s.err, s.errCause, s.errWord⟩

/-- No error recorded since ERR was cleared: code 0 (R203). -/
def ErrorRecord.clear : ErrorRecord := ⟨false, 0, 0⟩

@[simp] theorem errorRecord_latch (s : State) (v : Word) : (s.latch v).errorRecord = s.errorRecord := rfl

@[simp] theorem errorRecord_withInputs (s : State) (l : List Event) : (s.withInputs l).errorRecord = s.errorRecord := rfl

@[simp] theorem errorRecord_accept (s : State) (i : Instr) : (s.accept i).errorRecord = s.errorRecord := rfl

@[simp] theorem errorRecord_workInFlight (s : State) : s.workInFlight.errorRecord = s.errorRecord := by
  simp [State.errorRecord]

theorem errorRecord_resetStep (s : State) : s.resetStep.errorRecord = .clear := rfl

theorem errorRecord_commandError {s : State} (h : s.err = false) (reason : ErrReason) (v : Word) :
    (s.commandError reason v).errorRecord = ⟨true, reason.code, v⟩ := by
  simp [State.errorRecord, h]

/-- W1C of ERR clears the whole record, and any other STATUS write leaves it (10_state.md R25, R49). -/
theorem errorRecord_writeStatus (s : State) (v : Word) :
    (s.writeStatus v).errorRecord = if v.getLsbD 3 then .clear else s.errorRecord := by
  simp only [State.errorRecord, err_writeStatus, errCause_writeStatus, errWord_writeStatus]
  cases v.getLsbD 3 <;> simp [ErrorRecord.clear]

/-- A write to another register than CMD leaves the record or clears it. -/
theorem errorRecord_writeReg {r : Reg} (hr : r ≠ .cmd) (s : State) (v : Word) :
    (s.writeReg r v).errorRecord = s.errorRecord ∨ (s.writeReg r v).errorRecord = .clear := by
  cases r
  case cmd => exact absurd rfl hr
  case status =>
    have hrec := errorRecord_writeStatus s v
    split at hrec
    · exact .inr hrec
    · exact .inl hrec
  all_goals exact .inl rfl

/-- CLEAR's commit clears the record, and no other command touches it (R192, R203). -/
theorem errorRecord_exec {i : Instr} {s t : State} (h : exec i s = .next t) :
    t.errorRecord = if i = .clear then .clear else s.errorRecord := by
  cases i <;> cases h <;> rfl

/-- Everything a step can do to the recorded error: leave it, clear it, or raise CommandError in a CMD write that R203
rejects. -/
theorem step_errorRecord {s t : State} (h : step s = .next t) :
    t.errorRecord = s.errorRecord ∨ t.errorRecord = .clear ∨
    ∃ v rest reason, s.inputs = .write 0x000 4 v :: rest ∧ s.RejectedFor v reason ∧
      t = (s.withInputs s.inputs.tail).workInFlight.commandError reason v := by
  rcases step_outcomes h with rfl | ⟨r, rest, -, rfl⟩ | ⟨r, v, rest, hin, rfl⟩ | ⟨p, -, he⟩ | ⟨rest, -, rfl⟩
  · exact .inl (by simp)
  · exact .inl (by simp)
  · by_cases hr : r = .cmd
    · subst hr
      rcases writeCmd_rejected_or_accepted (s.withInputs s.inputs.tail).workInFlight v with ⟨reason, hrej⟩ | ⟨i, hacc⟩
      · have hrej' : s.RejectedFor v reason := (rejectedFor_congr (by simp) v reason).mp hrej
        exact .inr (.inr ⟨v, rest, reason, hin, hrej', writeCmd_of_rejectedFor hrej⟩)
      · exact .inl (by simp [State.writeReg, hacc])
    · exact (errorRecord_writeReg hr _ v).imp (·.trans (by simp)) .inl
  · rw [errorRecord_exec he]
    by_cases hclear : p.op = .clear <;> simp [hclear]
  · exact .inr (.inl (errorRecord_resetStep _))

/-! ### O5 -/

/-- Settles O5: a rejected CMD write records its reason and word, and no other step does more to the record than leave or
clear it. -/
theorem errorsComeFromCmdWritesAlone : Obligations.ErrorsComeFromCmdWritesAlone := by
  unfold Obligations.ErrorsComeFromCmdWritesAlone
  refine ⟨fun s v rest hin herr => ⟨fun hbusy => ?_, fun hidle hmbz => ?_, fun hidle hmbz hlo hhi => ?_⟩,
    fun s t h hnone hcleared => ?_, fun s t h herr hraised => ?_⟩
  · exact exists_step_records_error (reason := .busy) hin herr hbusy
  · exact exists_step_records_error (reason := .reservedBits) hin herr ⟨hidle, hmbz⟩
  · exact exists_step_records_error (reason := .reservedOp) hin herr ⟨hidle, hmbz, hlo, hhi⟩
  · rcases step_errorRecord h with hrec | hrec | ⟨v, rest, reason, -, -, rfl⟩
    · obtain ⟨he, hcause, -⟩ := ErrorRecord.mk.inj hrec
      exact hcause.trans (hnone (he.symm.trans hcleared))
    · exact congrArg ErrorRecord.cause hrec
    · simp at hcleared
  · rcases step_errorRecord h with hrec | hrec | ⟨v, rest, reason, hin, hrej, rfl⟩
    · have hkept : t.err = s.err := congrArg ErrorRecord.err hrec
      simp [hkept, herr] at hraised
    · have hcleared : t.err = false := congrArg ErrorRecord.err hrec
      simp [hcleared] at hraised
    · obtain ⟨-, hcause, hword⟩ := ErrorRecord.mk.inj
        (errorRecord_commandError (s := (s.withInputs s.inputs.tail).workInFlight) (by simp [herr]) reason v)
      refine ⟨v, rest, hin, hword, ?_⟩
      cases reason with
      | busy => exact .inl ⟨hrej, hcause⟩
      | reservedBits =>
        obtain ⟨hidle, hmbz⟩ := hrej
        exact .inr (.inl ⟨hidle, hmbz, hcause⟩)
      | reservedOp =>
        obtain ⟨hidle, hmbz, hlo, hhi⟩ := hrej
        exact .inr (.inr ⟨hidle, hmbz, hlo, hhi, hcause⟩)

end Sys2Proof.Machine
end

section
/-! SUPPORT. The decoder and the encoder are inverse on words, on the opcode table and on bytes (30_encoding.md sections 1
and 2). -/

namespace Sys2Proof

/-- A word is a command exactly when it is that command's word (R82, R84). -/
theorem decodeWord_eq_command_iff (w : Word) (i : Instr) : decodeWord w = .command i ↔ w = encode i := by
  constructor
  · intro h
    rcases decodeWord_cases w with ⟨-, hd⟩ | ⟨-, -, hd⟩ | ⟨j, hmbz, hop, hd⟩
    · cases hd.symm.trans h
    · cases hd.symm.trans h
    · cases hd.symm.trans h
      exact eq_encode_of_ofOp hmbz hop
  · rintro rfl
    exact decodeWord_encode i

/-- Every row of the opcode table matches one word, its command's (R82). -/
theorem match_opRow_iff {row : OpRow} (hrow : row ∈ opRows) (w : Word) :
    w &&& row.mask = row.bits ↔ w = encode row.instr := by
  have hfull : ∀ row ∈ opRows, row.mask = BitVec.allOnes 32 ∧ row.bits = encode row.instr := by decide
  obtain ⟨hmask, hbits⟩ := hfull row hrow
  rw [hmask, hbits, BitVec.and_allOnes]

/-- Every command has a row. -/
theorem exists_opRow (i : Instr) : ∃ row ∈ opRows, row.instr = i := by cases i <;> decide

/-- The decoder on bytes reads a word's bytes as that word (R67, R85). -/
theorem decode_bytes (w : Word) (rest : List Byte) :
    decode ([byteOfWord w 0, byteOfWord w 1, byteOfWord w 2, byteOfWord w 3] ++ rest) = .word (decodeWord w) rest := by
  simp only [List.cons_append, List.nil_append, decode, wordOfBytes_bytes]

/-! ### O2, O1 -/

/-- Settles O2: a command's word is the only word that decodes to it and the only one its row matches; and the decoder on
bytes reads a word's four bytes as the word. -/
theorem decodeReadsExactlyTheEncodedWords : Obligations.DecodeReadsExactlyTheEncodedWords := by
  unfold Obligations.DecodeReadsExactlyTheEncodedWords
  refine ⟨decodeWord_eq_command_iff, fun w i => ?_, fun i rest _ => ?_, decode_bytes⟩
  · rw [decodeWord_eq_command_iff]
    constructor
    · rintro rfl
      obtain ⟨row, hrow, rfl⟩ := exists_opRow i
      exact ⟨row, hrow, rfl, (match_opRow_iff hrow _).mpr rfl⟩
    · rintro ⟨row, hrow, rfl, hmatch⟩
      exact (match_opRow_iff hrow w).mp hmatch
  · rw [encodeBytes, decode_bytes, decodeWord_encode]

/-- Settles O1: the seven literals are the commands' words. -/
theorem commandWordsWrittenOut : Obligations.CommandWordsWrittenOut :=
  ⟨decodeWord_encode .nop, decodeWord_encode .keysched, decodeWord_encode .saltmix, decodeWord_encode .encrypt,
    decodeWord_encode .encode, decodeWord_encode .hash, decodeWord_encode .clear⟩

end Sys2Proof
end

section
/-! SUPPORT. The register window: which accesses have a step, the register map, the writes that change nothing, the bits of
STATUS, and reset (10_state.md sections 2 and 4, 20_memory.md section 1, 70_reset_and_hazards.md section 1). -/

namespace Sys2Proof.Machine

/-! ### Defined and undefined accesses -/

theorem accessDefined_iff {off : Int} {n : Nat} :
    accessDefined off n = true ↔ n = 4 ∧ 0 ≤ off ∧ off < 0x100 ∧ off % 4 = 0 := by
  simp [accessDefined, and_assoc]

section
variable (s : State) {off : Int} {n : Nat}

theorem exists_hostRead_of_defined (h : accessDefined off n = true) : ∃ t, s.hostRead off n = .next t := by
  simp only [State.hostRead, accessTarget_of_defined h]
  exact ⟨_, rfl⟩

theorem exists_hostWrite_of_defined (h : accessDefined off n = true) (v : Word) :
    ∃ t, s.hostWrite off n v = .next t := by
  simp only [State.hostWrite, accessTarget_of_defined h]
  exact ⟨_, rfl⟩

theorem exists_hostRead_fault (h : accessDefined off n = false) : ∃ f, s.hostRead off n = .fault f := by
  obtain ⟨f, hf⟩ := accessTarget_of_undefined h
  simp only [State.hostRead, hf]
  exact ⟨f, rfl⟩

theorem exists_hostWrite_fault (h : accessDefined off n = false) (v : Word) : ∃ f, s.hostWrite off n v = .fault f := by
  obtain ⟨f, hf⟩ := accessTarget_of_undefined h
  simp only [State.hostWrite, hf]
  exact ⟨f, rfl⟩

/-- A read has a step exactly where it is defined (R61, R63, R64). -/
theorem exists_hostRead_iff : (∃ t, s.hostRead off n = .next t) ↔ accessDefined off n = true := by
  refine ⟨fun ⟨t, ht⟩ => ?_, exists_hostRead_of_defined s⟩
  by_contra hundef
  obtain ⟨f, hf⟩ := exists_hostRead_fault s (Bool.eq_false_iff.mpr hundef)
  cases hf.symm.trans ht

/-- A write has a step exactly where it is defined (R62, R63, R64). -/
theorem exists_hostWrite_iff (v : Word) : (∃ t, s.hostWrite off n v = .next t) ↔ accessDefined off n = true := by
  refine ⟨fun ⟨t, ht⟩ => ?_, fun h => exists_hostWrite_of_defined s h v⟩
  by_contra hundef
  obtain ⟨f, hf⟩ := exists_hostWrite_fault s (Bool.eq_false_iff.mpr hundef) v
  cases hf.symm.trans ht

end

/-- The defined accesses by absolute address: the aligned words of the 256 bytes from ENGINE_BASE (00_scope.md R10,
R16). -/
theorem accessDefined_busOffset_iff {addr n : Nat} :
    accessDefined (busOffset addr) n = true ↔
      n = 4 ∧ ∃ off, addr = Config.engineBase + off ∧ off < 0x100 ∧ off % 4 = 0 := by
  rw [accessDefined_iff]
  refine and_congr_right fun _ => ⟨fun ⟨h0, h1, h2⟩ => ?_, ?_⟩
  · simp only [busOffset] at h0 h1 h2
    exact ⟨addr - Config.engineBase, by omega, by omega, by omega⟩
  · rintro ⟨off, rfl, hlt, halign⟩
    rw [busOffset_base]
    omega

/-! ### O10, O11 -/

/-- Settles O10: an access addresses a register exactly where it is defined, and is stuck everywhere else. -/
theorem undefinedAccessesStop : Obligations.UndefinedAccessesStop := by
  unfold Obligations.UndefinedAccessesStop
  intro s off n v
  rw [← accessDefined_iff, Bool.not_eq_true]
  exact ⟨fun h => ⟨exists_hostRead_of_defined s h, exists_hostWrite_of_defined s h v⟩,
    fun h => ⟨exists_hostRead_fault s h, exists_hostWrite_fault s h v⟩⟩

/-- Settles O11: an absolute access is the access at its displacement, and ENGINE_BASE is 256 times a page number. -/
theorem absoluteAccessesReachTheWindow : Obligations.AbsoluteAccessesReachTheWindow := by
  unfold Obligations.AbsoluteAccessesReachTheWindow
  refine ⟨Nat.mul_mod_right 256 _, fun s addr n v => ⟨?_, ?_⟩⟩
  · rw [← accessDefined_busOffset_iff]
    exact exists_hostRead_iff s
  · rw [← accessDefined_busOffset_iff]
    exact exists_hostWrite_iff s v

/-! ### The register map and the reset values (O8, O7) -/

/-- The register at a word index is at four times that index. -/
theorem offset_atIndex : ∀ n : Fin 64, (Reg.atIndex n).offset = 4 * n.val := by decide

/-- Every register is at some word index. -/
theorem exists_atIndex (r : Reg) : ∃ n : Fin 64, Reg.atIndex n = r := by
  have h := accessTarget_offset r
  unfold accessTarget at h
  split_ifs at h with hwidth hwindow halign
  · exact ⟨_, Target.reg.inj h⟩

/-- Settles O8: the word indices and the registers are one to one, and the offsets are the map's. -/
theorem registerMapIsOneToOne : Obligations.RegisterMapIsOneToOne :=
  ⟨offset_atIndex, exists_atIndex, rfl, rfl, rfl, rfl, rfl, rfl, rfl, rfl, rfl, rfl, rfl, rfl, rfl, rfl, rfl, rfl, rfl,
    rfl, rfl, rfl, fun _ => rfl, fun _ => rfl⟩

/-- Every register reads 0 in the reset state (R48). -/
theorem readReg_reset (r : Reg) : State.reset.readReg r = 0 := by
  cases r
  case ks i => exact Vector.getElem_replicate i.isLt
  case status | irqEn => decide
  all_goals rfl

/-- Settles O7: the reset state holds 0 in every register and no command. -/
theorem resetClearsEveryRegister : Obligations.ResetClearsEveryRegister := ⟨readReg_reset, rfl, rfl⟩

/-! ### O48 -/

/-- The reset step shows as the reset state, whatever it found (70_reset_and_hazards.md R230). -/
theorem readReg_resetStep (s : State) (r : Reg) : s.resetStep.readReg r = 0 := by
  have hsame : s.resetStep.readReg r = State.reset.readReg r := by cases r <;> rfl
  rw [hsame, readReg_reset]

/-- Settles O48: the step of a reset event is the reset step, on the events after it. -/
theorem resetIsOneStep : Obligations.ResetIsOneStep := by
  unfold Obligations.ResetIsOneStep
  intro s rest hin
  have hstep : step s = .next (s.withInputs rest).resetStep := by simp [step, hin, takeEvent]
  exact ⟨_, hstep, readReg_resetStep _, rfl, rfl, rfl⟩

/-! ### Writes that change nothing (O13) -/

/-- A register the host cannot write takes nothing from a written word (20_memory.md R62). -/
theorem writeReg_of_readOnly {r : Reg} (hrw : r ∉ rwRegs) (hcmd : r ≠ .cmd) (hstatus : r ≠ .status) (s : State)
    (v : Word) : s.writeReg r v = s := by
  cases r
  case cmd => exact absurd rfl hcmd
  case status => exact absurd rfl hstatus
  case irqEn | secretLen | secret0 | secret1 | salt => simp [rwRegs] at hrw
  all_goals rfl

/-- Settles O13: such a write leaves only the sequencer's hidden progress, which shows nowhere. -/
theorem readOnlyWritesAreIgnored : Obligations.ReadOnlyWritesAreIgnored := by
  unfold Obligations.ReadOnlyWritesAreIgnored
  intro s r v hrw hcmd hstatus
  refine ⟨_, hostWrite_offset s r v, ?_⟩
  rw [writeReg_of_readOnly hrw hcmd hstatus]
  exact ⟨sameRegsBut_workInFlight [] s, pending_workInFlight s, irq_workInFlight s, sameOutside_workInFlight s⟩

/-! ### STATUS (O14) -/

theorem getLsbD_flagAt (b : Bool) {k : Nat} (hk : k < 32) (n : Nat) : (flagAt b k).getLsbD n = (b && decide (n = k)) := by
  cases b
  · simp [flagAt]
  · rw [flagAt, if_pos rfl, Nat.one_shiftLeft, BitVec.natCast_eq_ofNat, BitVec.getLsbD_ofNat, Nat.testBit_two_pow]
    by_cases h : n = k
    · simp [h, hk]
    · simp [h, Ne.symm h]

/-- STATUS bit by bit (R25). -/
theorem getLsbD_statusWord (s : State) (n : Nat) :
    s.statusWord.getLsbD n =
      ((s.busy && decide (n = 0)) || (s.done && decide (n = 1)) || (s.empty && decide (n = 2)) ||
        (s.err && decide (n = 3))) := by
  simp [State.statusWord, getLsbD_flagAt]

/-- A STATUS write shows in STATUS and in the error capture alone (R25). -/
theorem sameRegsBut_writeStatus (s : State) (v : Word) :
    SameRegsBut [.status, .errCause, .errWord] s (s.writeStatus v) := by
  intro r hr
  cases r
  case status | errCause | errWord => simp at hr
  all_goals simp [State.readReg, State.irqEnWord]

theorem sameOutside_writeStatus (s : State) (v : Word) : SameOutside s (s.writeStatus v) :=
  ⟨inputs_writeStatus s v, readData_writeStatus s v⟩

/-- Settles O14: STATUS holds the four flags, and W1C acts on the state the sequencer's hidden progress leaves. -/
theorem statusLayoutAndWriteOneToClear : Obligations.StatusLayoutAndWriteOneToClear := by
  unfold Obligations.StatusLayoutAndWriteOneToClear
  intro s
  have hbits (n : Nat) := getLsbD_statusWord s n
  refine ⟨(hbits 0).trans (by simp [State.busy]), (hbits 1).trans (by simp), (hbits 2).trans (by simp),
    (hbits 3).trans (by simp), fun k hk => (hbits k).trans ?_, fun v => ?_⟩
  · have hne : k ≠ 0 ∧ k ≠ 1 ∧ k ≠ 2 ∧ k ≠ 3 := by omega
    simp [hne]
  · exact ⟨_, hostWrite_status s v, by simp, by simp, by simp, by simp, by simp, by simp,
      (sameRegsBut_workInFlight _ s).trans (sameRegsBut_writeStatus _ v),
      (sameOutside_workInFlight s).trans (sameOutside_writeStatus _ v)⟩

end Sys2Proof.Machine
end

section
/-! SUPPORT. Who writes the error capture (10_state.md section 2), a step of the accepted command, and commands written to
CMD and waited for (46_control.md, 70_reset_and_hazards.md sections 2 and 3). -/

namespace Sys2Proof.Machine

/-! ### Who writes the error capture -/

/-- A write to neither CMD nor STATUS leaves the recorded error. -/
theorem errorRecord_writeReg_of_ne {r : Reg} (hcmd : r ≠ .cmd) (hstatus : r ≠ .status) (s : State) (v : Word) :
    (s.writeReg r v).errorRecord = s.errorRecord := by
  cases r
  case cmd => exact absurd rfl hcmd
  case status => exact absurd rfl hstatus
  all_goals rfl

/-- The same record is the same capture. -/
theorem capture_eq_of_errorRecord_eq {s t : State} (h : t.errorRecord = s.errorRecord) :
    t.errCause = s.errCause ∧ t.errWord = s.errWord :=
  ⟨congrArg ErrorRecord.cause h, congrArg ErrorRecord.word h⟩

theorem capture_of_errorRecord_clear {t : State} (h : t.errorRecord = .clear) :
    t.errCause = 0 ∧ t.errWord = 0 ∧ t.err = false :=
  ⟨congrArg ErrorRecord.cause h, congrArg ErrorRecord.word h, congrArg ErrorRecord.err h⟩

theorem code_ne_zero (reason : ErrReason) : reason.code ≠ 0 := by cases reason <;> decide

/-- A CMD write leaves the capture, or finds ERR = 0 and records its word (R202, R49). -/
theorem capture_writeCmd (s : State) (v : Word) :
    ((s.writeCmd v).errCause = s.errCause ∧ (s.writeCmd v).errWord = s.errWord) ∨
    (s.err = false ∧ (s.writeCmd v).err = true ∧ (s.writeCmd v).errCause ≠ 0 ∧ (s.writeCmd v).errWord = v) := by
  rcases writeCmd_rejected_or_accepted s v with ⟨reason, hrej⟩ | ⟨i, hacc⟩
  · rw [writeCmd_of_rejectedFor hrej]
    cases herr : s.err
    · obtain ⟨hraised, hcause, hword⟩ := ErrorRecord.mk.inj (errorRecord_commandError herr reason v)
      exact .inr ⟨rfl, hraised, hcause ▸ code_ne_zero reason, hword⟩
    · exact .inl (by simp [herr])
  · rw [hacc]
    exact .inl ⟨rfl, rfl⟩

/-! ### O6 -/

/-- Settles O6: of what a step can do, a CMD write records on a first error, and W1C of ERR, the commit of CLEAR and reset
clear the whole record. -/
theorem errorCaptureWriters : Obligations.ErrorCaptureWriters := by
  unfold Obligations.ErrorCaptureWriters
  intro s t h
  rcases step_outcomes h with rfl | ⟨r, rest, -, rfl⟩ | ⟨r, v, rest, hin, rfl⟩ | ⟨p, hp, he⟩ | ⟨rest, hin, rfl⟩
  · exact .inl ⟨rfl, rfl⟩
  · exact .inl (capture_eq_of_errorRecord_eq (by simp))
  · by_cases hcmd : r = .cmd
    · subst hcmd
      refine (capture_writeCmd (s.withInputs s.inputs.tail).workInFlight v).imp (by simp [State.writeReg]) ?_
      rintro ⟨herr, hraised, hcause, hword⟩
      exact .inl ⟨by simpa using herr, hraised, hcause, rest, by rw [State.writeReg, hword]; exact hin⟩
    by_cases hstatus : r = .status
    · subst hstatus
      have hrec := errorRecord_writeStatus (s.withInputs s.inputs.tail).workInFlight v
      split at hrec
      · next hv =>
        obtain ⟨hcause, hword, herr⟩ := capture_of_errorRecord_clear hrec
        exact .inr (.inr ⟨hcause, hword, herr, .inl ⟨v, rest, hin, hv⟩⟩)
      · exact .inl (capture_eq_of_errorRecord_eq (hrec.trans (by simp)))
    · exact .inl (capture_eq_of_errorRecord_eq ((errorRecord_writeReg_of_ne hcmd hstatus _ v).trans (by simp)))
  · have hrec := errorRecord_exec he
    split at hrec
    · next hclear =>
      obtain ⟨hcause, hword, herr⟩ := capture_of_errorRecord_clear hrec
      obtain ⟨u, hu, hidle, -⟩ := exec_next p.op (s.withInputs s.inputs.tail)
      cases hu.symm.trans he
      exact .inr (.inr ⟨hcause, hword, herr, .inr (.inl ⟨p, hp, hclear, hidle⟩)⟩)
    · exact .inl (capture_eq_of_errorRecord_eq hrec)
  · exact .inr (.inr ⟨rfl, rfl, rfl, .inr (.inr ⟨rest, hin⟩)⟩)

/-! ### A step of the accepted command (O42, O43) -/

/-- With no event left, the step is the commit of the pending command (R242). -/
theorem step_of_pending {s : State} {p : Pending} (hp : s.pending = some p) (hin : s.inputs = []) :
    step s = exec p.op s := by
  simp [step, hin, sequencerTurn, hp]

theorem step_of_commit {s : State} {p : Pending} {rest : List Event} (hp : s.pending = some p)
    (hin : s.inputs = .commit :: rest) : step s = exec p.op (s.withInputs rest) := by
  simp [step, hin, takeEvent, sequencerTurn, hp]

/-- Settles O42: the sequencer's turn is exec of the pending command, and a command's word is accepted by an idle engine. -/
theorem stepRunsTheAcceptedCommand : Obligations.StepRunsTheAcceptedCommand := by
  unfold Obligations.StepRunsTheAcceptedCommand
  refine ⟨fun s p => step_of_pending, fun s p rest => step_of_commit, fun s w i rest hidle hd hin => ?_⟩
  have hstep : step s = .next ((s.withInputs rest).accept i) := by
    rw [← hostWrite_cmd_of_command (s := s.withInputs rest) hidle hd]
    simp [step, hin, takeEvent]
  exact ⟨_, hstep, rfl, rfl, readReg_accept (s.withInputs rest) i⟩

/-- Settles O43: the placed command is pending, with the snapshot, and no event comes before its commit. -/
theorem placedWordIsRunNext : Obligations.PlacedWordIsRunNext := by
  unfold Obligations.PlacedWordIsRunNext
  intro s nbits w i hd
  have hplaced : s.withFetchWord nbits w = { s.withInputs [] with done := false, pending := some ⟨i, s.snapshot⟩ } := by
    simp [State.withFetchWord, hd]
  rw [hplaced]
  exact ⟨step_of_pending (p := ⟨i, s.snapshot⟩) rfl rfl, rfl⟩

/-! ### The registers in their three parts -/

/-- What the host writes: the RW registers' contents (10_state.md R26 to R29). -/
structure HostRegs where
  doneIe    : Bool
  errIe     : Bool
  secretLen : BitVec 8
  secret0   : Word
  secret1   : Word
  salt      : BitVec 18

/-- The RW registers of a state. -/
def State.hostRegs (s : State) : HostRegs := ⟨s.doneIe, s.errIe, s.secretLen, s.secret0, s.secret1, s.salt⟩

/-- States with the same RW registers, results, recorded error and sequencer flags read the same everywhere. -/
theorem sameRegsBut_nil_of_parts {s t : State} (hhost : t.hostRegs = s.hostRegs) (hres : t.results = s.results)
    (herr : t.errorRecord = s.errorRecord) (hdone : t.done = s.done) (hbusy : t.busy = s.busy) :
    SameRegsBut [] s t := by
  intro r _
  by_cases hr : r ∈ resultRegs
  · exact readReg_eq_of_results_eq hres r hr
  simp only [State.hostRegs, HostRegs.mk.injEq] at hhost
  simp only [State.errorRecord, ErrorRecord.mk.injEq] at herr
  obtain ⟨hdoneIe, herrIe, hlen, hs0, hs1, hsalt⟩ := hhost
  obtain ⟨herr, hcause, hword⟩ := herr
  have hempty := empty_eq_of_results_eq hres
  cases r
  case status => simp only [State.readReg, State.statusWord, *]
  case irqEn => simp only [State.readReg, State.irqEnWord, *]
  case secretLen | secret0 | secret1 | salt | errCause | errWord => simp only [State.readReg, *]
  case cmd | reserved3C | reserved50 => rfl
  all_goals simp [resultRegs, ksRegs] at hr

/-- A command but CLEAR keeps what the host wrote, and CLEAR keeps the enables alone (R192). -/
theorem hostRegs_exec {i : Instr} {s t : State} (h : exec i s = .next t) :
    t.hostRegs = if i = .clear then ⟨s.doneIe, s.errIe, 0, 0, 0, 0⟩ else s.hostRegs := by
  cases i <;> cases h <;> rfl

theorem sameOutside_exec {i : Instr} {s t : State} (h : exec i s = .next t) : SameOutside s t := by
  cases i <;> cases h <;> exact ⟨rfl, rfl⟩

/-- A command acts alike on two states with the same operands and the same registers. -/
theorem exec_regs_congr (i : Instr) {s u : State} (hops : u.operands = s.operands) (hres : u.results = s.results)
    (hhost : u.hostRegs = s.hostRegs) (herr : u.errorRecord = s.errorRecord) :
    ∃ s' u', exec i s = .next s' ∧ exec i u = .next u' ∧ SameRegsBut [] s' u' := by
  obtain ⟨s', u', hs, hu, hres'⟩ := exec_results_congr i hops hres
  obtain ⟨s'', hs'', hsidle, hsdone⟩ := exec_next i s
  obtain ⟨u'', hu'', huidle, hudone⟩ := exec_next i u
  cases hs''.symm.trans hs
  cases hu''.symm.trans hu
  refine ⟨_, _, hs, hu, sameRegsBut_nil_of_parts ?_ hres' ?_ (hudone.trans hsdone.symm) ?_⟩
  · obtain ⟨hdoneIe, herrIe, -⟩ := HostRegs.mk.inj hhost
    rw [hostRegs_exec hs, hostRegs_exec hu, hhost, hdoneIe, herrIe]
  · rw [errorRecord_exec hs, errorRecord_exec hu, herr]
  · simp [State.busy, hsidle, huidle]

/-! ### O44 -/

/-- Settles O44: acceptance snapshots what exec takes as operands in an idle state, and touches no other register than
STATUS, whose flags the commit sets. -/
theorem acceptThenCommitIsExec : Obligations.AcceptThenCommitIsExec := by
  unfold Obligations.AcceptThenCommitIsExec
  intro i s hidle
  have hops : s.operands = (s.accept i).operands := operands_idle hidle
  obtain ⟨t, u, ht, hu, hregs⟩ := exec_regs_congr i hops rfl rfl rfl
  obtain ⟨t', ht', hpending, -⟩ := exec_next i (s.accept i)
  cases ht'.symm.trans ht
  obtain ⟨htin, htread⟩ := sameOutside_exec ht
  obtain ⟨huin, huread⟩ := sameOutside_exec hu
  exact ⟨_, u, (runCommand_idle hidle).trans ht, hu, hregs, hpending, huin.trans htin.symm, huread.trans htread.symm⟩

/-! ### HASH, by whether the salt is empty -/

/-- The registers HASH commits: the masks of an effective salt, a schedule, a ciphertext, and their encoding (R191). -/
def State.withHash (s : State) (eff : BitVec 17) (ks : Vector Word 32) (out : Halves) : State :=
  (((s.withMasks (swapMask0 eff) (swapMask1 eff) eff).withKs ks).withOut out.l out.r).withResult
    (encodeResult eff out.l out.r)

/-- What HASH computes from a secret and an effective salt (R191, non-empty salt): the ciphertext of the schedule. -/
def hashOut (ks : Vector Word 32) (eff : BitVec 17) : Halves := encryptBlock ⟨ks, swapMask0 eff, swapMask1 eff⟩

theorem exec_hash_of_salt {s : State} (h : saltLen s.operands.salt ≠ 0) :
    exec .hash s = .next (s.withHash (effectiveSalt s.operands.salt)
      (keySched s.operands.secret0 s.operands.secret1 s.operands.secretLen)
      (hashOut (keySched s.operands.secret0 s.operands.secret1 s.operands.secretLen)
        (effectiveSalt s.operands.salt))).commit := by
  have hvalid := (effValid_effectiveSalt s.operands.salt).mpr h
  simp only [exec_hash, hvalid, if_true]
  rfl

theorem exec_hash_of_empty {s : State} (h : saltLen s.operands.salt = 0) :
    exec .hash s = .next (s.withHash 0 s.operands.ks ⟨s.operands.out0, s.operands.out1⟩).commit := by
  have hinvalid : effValid 0 = false := rfl
  simp only [exec_hash, effectiveSalt_of_empty h, hinvalid]
  rfl

/-- The result registers hold the encoding of what HASH leaves in SALT_EFF and OUT (R191). -/
theorem encodeResult_withHash (s : State) (eff : BitVec 17) (ks : Vector Word 32) (out : Halves) :
    let t := (s.withHash eff ks out).commit
    encodeResult t.saltEff t.out0 t.out1 = ⟨t.result0, t.result1, t.result2, t.result3, t.resultLen, t.empty⟩ := rfl

/-- The masks HASH commits are those of the effective salt it commits (R151, R153). -/
theorem masks_withHash (s : State) (eff : BitVec 17) (ks : Vector Word 32) (out : Halves) :
    let t := (s.withHash eff ks out).commit
    t.eswap0 = swapMask0 t.saltEff ∧ t.eswap1 = swapMask1 t.saltEff := ⟨rfl, rfl⟩

/-! ### O23 -/

theorem sameRegsBut_exec_hash {s t : State} (h : exec .hash s = .next t) : SameRegsBut (.status :: resultRegs) s t :=
  sameRegsBut_exec (by decide) h

/-- In an idle state and in one that meets the invariant, the operands show the registers only commits write. -/
theorem operands_results {s : State} (h : s.pending = none ∨ s.Inv) :
    s.operands.ks = s.ks ∧ s.operands.out0 = s.out0 ∧ s.operands.out1 = s.out1 := by
  cases hp : s.pending with
  | none =>
    rw [operands_idle hp]
    exact ⟨rfl, rfl, rfl⟩
  | some p =>
    have hinv : s.Inv := h.resolve_left (by simp [hp])
    obtain ⟨-, -, -, hout0, hout1, hks⟩ := hinv.snapResults p hp
    rw [operands_pending hp]
    exact ⟨hks, hout0, hout1⟩

/-- Settles O23: the word is HASH's; its commit writes the result registers alone, by whether the snapshot's salt is
empty. -/
theorem hashCommitsEveryResult : Obligations.HashCommitsEveryResult := by
  unfold Obligations.HashCommitsEveryResult
  refine ⟨acceptedAs_of_decodeWord (decodeWord_encode .hash), fun s => ?_⟩
  by_cases hsalt : saltLen s.operands.salt = 0
  · have hexec := exec_hash_of_empty hsalt
    obtain ⟨hmask0, hmask1⟩ := masks_withHash s 0 s.operands.ks ⟨s.operands.out0, s.operands.out1⟩
    refine ⟨_, hexec, (effectiveSalt_of_empty hsalt).symm, hmask0, hmask1, fun h => absurd hsalt h, fun _ => ?_,
      encodeResult_withHash s _ _ _, ⟨rfl, rfl, rfl, rfl⟩, sameRegsBut_exec_hash hexec, rfl, rfl⟩
    exact ⟨rfl, rfl, rfl, operands_results, rfl, rfl, rfl, rfl, rfl, rfl, rfl, rfl, rfl⟩
  · have hexec := exec_hash_of_salt hsalt
    have hvalid := (effValid_effectiveSalt s.operands.salt).mpr hsalt
    refine ⟨_, hexec, rfl, rfl, rfl, fun _ => ?_, fun h => absurd h hsalt,
      encodeResult_withHash s _ _ _, ⟨rfl, rfl, rfl, rfl⟩, sameRegsBut_exec_hash hexec, rfl, rfl⟩
    refine ⟨rfl, rfl, rfl, ?_, ?_⟩
    · exact congrArg Encoded.len (encodeResult_of_valid hvalid _ _)
    · exact congrArg Encoded.empty (encodeResult_of_valid hvalid _ _)

/-! ### O53 -/

/-- Settles O53: for a non-empty salt HASH writes every result, each from the secret, its length and the salt. -/
theorem hashDependsOnSecretAndSaltAlone : Obligations.HashDependsOnSecretAndSaltAlone := by
  unfold Obligations.HashDependsOnSecretAndSaltAlone
  intro s u hsalt hs0 hs1 hlen hsaltEq
  have hs := exec_hash_of_salt hsalt
  have hu := exec_hash_of_salt (s := u) (hsaltEq ▸ hsalt)
  rw [← hs0, ← hs1, ← hlen, ← hsaltEq] at hu
  exact ⟨_, _, hs, hu, rfl, readReg_eq_of_results_eq rfl⟩

/-! ### O52 -/

theorem runCommands_cons {i : Instr} {is : List Instr} {s s' : State} (h : runCommand i s = .next s') :
    runCommands (i :: is) s = runCommands is s' := by
  simp only [runCommands, h]

theorem runCommand_saltmix {s : State} (h : s.pending = none) :
    let eff := effectiveSalt s.salt
    runCommand .saltmix s = .next ((s.accept .saltmix).withMasks (swapMask0 eff) (swapMask1 eff) eff).commit :=
  (runCommand_idle h).trans (exec_saltmix (s.accept .saltmix))

theorem runCommand_keysched {s : State} (h : s.pending = none) :
    runCommand .keysched s = .next ((s.accept .keysched).withKs (keySched s.secret0 s.secret1 s.secretLen)).commit :=
  (runCommand_idle h).trans (exec_keysched (s.accept .keysched))

theorem runCommand_encode {s : State} (h : s.pending = none) :
    runCommand .encode s = .next ((s.accept .encode).withResult (encodeResult s.saltEff s.out0 s.out1)).commit :=
  (runCommand_idle h).trans (exec_encode (s.accept .encode))

/-- Settles O52: each component, waited for, leaves what the next one reads, and HASH commits all of it at once. -/
theorem hashIsTheComponentSequence : Obligations.HashIsTheComponentSequence := by
  unfold Obligations.HashIsTheComponentSequence
  intro s hidle
  refine ⟨fun hsalt => ?_, fun hsalt => ?_⟩
  · have hhash := (runCommand_idle hidle).trans (exec_hash_of_salt (s := s.accept .hash) hsalt)
    have hsequence := (runCommands_cons (is := [.keysched, .encrypt, .encode]) (runCommand_saltmix hidle)).trans <|
      (runCommands_cons (runCommand_keysched rfl)).trans <| (runCommands_cons (runCommand_encrypt rfl)).trans <|
      runCommands_cons (runCommand_encode rfl)
    exact ⟨_, _, hsequence, hhash, sameRegsBut_nil_of_parts (by simp [State.withHash, State.hostRegs])
      (by simp [State.withHash, State.results, State.snapshot, hashOut]) (by simp [State.withHash, State.errorRecord]) rfl rfl⟩
  · have hhash := (runCommand_idle hidle).trans (exec_hash_of_empty (s := s.accept .hash) hsalt)
    have hsequence := (runCommands_cons (is := [.encode]) (runCommand_saltmix hidle)).trans <|
      runCommands_cons (runCommand_encode rfl)
    rw [effectiveSalt_of_empty hsalt] at hsequence
    exact ⟨_, _, hsequence, hhash, sameRegsBut_nil_of_parts (by simp [State.withHash, State.hostRegs])
      (by simp [State.withHash, State.results, State.snapshot]) (by simp [State.withHash, State.errorRecord]) rfl rfl⟩

end Sys2Proof.Machine
end

section
/-! SUPPORT. A command in flight under further host accesses (70_reset_and_hazards.md section 3), and the wait
pseudo-instruction (30_encoding.md section 4). -/

namespace Sys2Proof.Machine

/-! ### Quiet accesses -/

/-- A host write takes no event. -/
@[simp] theorem inputs_writeReg (s : State) (r : Reg) (v : Word) : (s.writeReg r v).inputs = s.inputs := by
  cases r
  case cmd => rcases writeCmd_cases s v with ⟨-, h⟩ | ⟨-, -, h⟩ | ⟨-, -, h⟩ | ⟨i, -, -, h⟩ <;> simp [State.writeReg, h]
  case status => exact inputs_writeStatus s v
  all_goals rfl

/-- What one quiet access leaves while a command is in flight: the events after it, the command, and the results. -/
theorem step_quiet {s : State} {p : Pending} {e : Event} {rest : List Event} (hp : s.pending = some p)
    (hin : s.inputs = e :: rest) (he : e.isQuietAccess = true) :
    ∃ t, step s = .next t ∧ t.inputs = rest ∧ t.pending = some p ∧ t.results = s.results := by
  cases e with
  | read off n =>
    obtain ⟨t, ht⟩ := exists_hostRead_of_defined (s.withInputs rest) he
    have hstep : step s = .next t := by simp [step, hin, takeEvent, ht]
    obtain ⟨r, -, rfl⟩ := hostRead_cases ht
    exact ⟨_, hstep, by simp, by simp [hp], by simp⟩
  | write off n v =>
    simp only [Event.isQuietAccess, Bool.and_eq_true, bne_iff_ne] at he
    obtain ⟨hdef, hne⟩ := he
    obtain ⟨t, ht⟩ := exists_hostWrite_of_defined (s.withInputs rest) hdef v
    have hstep : step s = .next t := by simp [step, hin, takeEvent, ht]
    obtain ⟨r, hr, rfl⟩ := hostWrite_cases ht
    have hcmd : r ≠ .cmd := by
      rintro rfl
      exact hne (accessTarget_eq_reg hr).2
    exact ⟨_, hstep, by simp, by rw [pending_writeReg hcmd]; simp [hp], by simp⟩
  | commit | reset | accessInReset => simp [Event.isQuietAccess] at he

/-! ### O49 -/

/-- One step of a run is the step itself. -/
theorem run_one (s : State) : Host.Core.run core 1 s = step s := by
  simp only [Host.Core.run, core]
  cases step s <;> rfl

theorem run_succ {s s' : State} (h : step s = .next s') (k : Nat) :
    Host.Core.run core (k + 1) s = Host.Core.run core k s' := by
  simp only [Host.Core.run, core, h]

/-- After quiet accesses alone, the last step of the run is the commit of the command in flight, over the results it was
accepted with. -/
theorem run_quiet {l : List Event} {s : State} {p : Pending} (hp : s.pending = some p) (hin : s.inputs = l)
    (hquiet : ∀ e ∈ l, e.isQuietAccess = true) :
    ∃ s', Host.Core.run core (l.length + 1) s = exec p.op s' ∧ s'.pending = some p ∧ s'.results = s.results := by
  induction l generalizing s with
  | nil => exact ⟨s, (run_one s).trans (step_of_pending hp hin), hp, rfl⟩
  | cons e rest ih =>
    obtain ⟨t, hstep, htin, htp, htres⟩ := step_quiet hp hin (hquiet e List.mem_cons_self)
    obtain ⟨s', hrun, hp', hres⟩ := ih htp htin fun e' he' => hquiet e' (List.mem_cons_of_mem _ he')
    exact ⟨s', (run_succ hstep _).trans hrun, hp', hres.trans htres⟩

/-- Settles O49: quiet accesses leave the command its snapshot and the results as they stand, so its commit after them is
its commit now. -/
theorem pendingCommandCommits : Obligations.PendingCommandCommits := by
  unfold Obligations.PendingCommandCommits
  intro s p hp hquiet
  obtain ⟨s', hrun, hp', hres⟩ := run_quiet hp rfl hquiet
  have hops : s'.operands = s.operands := (operands_pending hp').trans (operands_pending hp).symm
  obtain ⟨u, t, hu, ht, hcommit⟩ := exec_results_congr p.op hops hres
  obtain ⟨t', ht', hidle, hdone⟩ := exec_next p.op s'
  cases ht'.symm.trans ht
  exact ⟨_, u, hrun.trans ht, hu, hidle, hdone, empty_eq_of_results_eq hcommit, readReg_eq_of_results_eq hcommit⟩

/-! ### O57 -/

/-- The wait tests STATUS bit 0, which is BUSY (10_state.md R25). -/
theorem getLsbD_status_zero (s : State) : (s.readReg .status).getLsbD 0 = s.busy :=
  (getLsbD_statusWord s 0).trans (by simp)

/-- Settles O57: the read puts STATUS in h7, and the branch tests its BUSY bit. -/
theorem waitSpinsWhileBusy : Obligations.WaitSpinsWhileBusy := by
  unfold Obligations.WaitSpinsWhileBusy
  rintro r n hrun rfl hread hbranch
  have hrd := hostTurn_rd hrun hread
  have hbit := hostTurn_bit1 (n := 7) (k := 0) (label := r.next)
    (r := { r with
      engine := r.engine.workInFlight.latch (r.engine.readReg .status), next := r.next + 1,
      scratch := r.scratch.set 7 (r.engine.readReg .status) }) hrun hbranch
  have hbusy : ((r.scratch.set 7 (r.engine.readReg .status))[7]).getLsbD 0 = r.engine.busy := by
    rw [Vector.getElem_set_self, getLsbD_status_zero]
  refine ⟨_, _, hrd, hbit, hrun, ?_, fun q _ => by simp, by simp⟩
  exact congrArg (fun b : Bool => if b then r.next else r.next + 2) hbusy

end Sys2Proof.Machine
end

section
/-! SUPPORT. The bit-permutation utilities bit by bit (41_bitperm.md), and the masked expansion (43_salt_mixer.md
section 3). -/

namespace Sys2Proof.Machine

/-! ### O28, O29, O30 -/

/-- Where the mask is set, permute-exchange takes b's bit from a, `shift` places up (R120, R121). -/
theorem getLsbD_permuteExchange_snd_swap (a b mask : Word) (sh : Fin 32) (i : Nat) :
    (permuteExchange a b sh mask).2.getLsbD i = if mask.getLsbD i then a.getLsbD (i + sh.val) else b.getLsbD i := by
  have hswap : ∀ x y : Bool, (y ^^ (x ^^ y)) = x := by decide
  rw [getLsbD_permuteExchange_snd, Nat.add_comm]
  cases mask.getLsbD i <;> simp [hswap]

/-- Where the mask is set `shift` places down, it takes a's bit from b. -/
theorem getLsbD_permuteExchange_fst_swap (a b mask : Word) (sh : Fin 32) {i : Nat} (hi : i < 32) :
    (permuteExchange a b sh mask).1.getLsbD i =
      if sh.val ≤ i ∧ mask.getLsbD (i - sh.val) = true then b.getLsbD (i - sh.val) else a.getLsbD i := by
  have hswap : ∀ x y : Bool, (x ^^ (x ^^ y)) = y := by decide
  rw [getLsbD_permuteExchange_fst _ _ _ _ hi]
  by_cases hsh : sh.val ≤ i
  · have hup : sh.val + (i - sh.val) = i := by omega
    have hlt : ¬i < sh.val := by omega
    cases hm : mask.getLsbD (i - sh.val) <;> simp [hsh, hup, hlt, hswap]
  · have hlt : i < sh.val := by omega
    simp [hsh, hlt]

/-- Under R120's condition on the mask the difference survives the exchange, so a second one undoes the first. -/
theorem permuteExchange_permuteExchange {a b mask : Word} {sh : Fin 32}
    (hmask : ∀ i, 32 - sh.val ≤ i → mask.getLsbD i = false) :
    permuteExchange (permuteExchange a b sh mask).1 (permuteExchange a b sh mask).2 sh mask = (a, b) := by
  refine Prod.ext (BitVec.eq_of_getLsbD_eq fun i hi => ?_) (BitVec.eq_of_getLsbD_eq fun i hi => ?_)
  · rw [getLsbD_permuteExchange_fst_swap _ _ _ _ hi, getLsbD_permuteExchange_snd_swap,
      getLsbD_permuteExchange_fst_swap _ _ _ _ hi]
    by_cases h : sh.val ≤ i ∧ mask.getLsbD (i - sh.val) = true
    · have hup : i - sh.val + sh.val = i := by omega
      simp [h, hup]
    · simp [h]
  · rw [getLsbD_permuteExchange_snd_swap, getLsbD_permuteExchange_snd_swap]
    cases hm : mask.getLsbD i with
    | false => simp
    | true =>
      have hlt : i + sh.val < 32 := by
        by_contra hge
        exact absurd (hm.symm.trans (hmask i (by omega))) (by decide)
      rw [getLsbD_permuteExchange_fst_swap _ _ _ _ hlt]
      simp [hm]

/-- Settles O28: bit by bit, each word takes the other's bit exactly where the mask selects the pair. -/
theorem permuteExchangeSwapsSelectedBits : Obligations.PermuteExchangeSwapsSelectedBits := by
  unfold Obligations.PermuteExchangeSwapsSelectedBits
  exact fun a b mask sh hmask => ⟨fun i _ => getLsbD_permuteExchange_snd_swap a b mask sh i,
    fun i hi => getLsbD_permuteExchange_fst_swap a b mask sh hi, permuteExchange_permuteExchange hmask⟩

/-- Bit i of half-permute: `a ^ t ^ (t >> D)` with `t = ((a << D) ^ a) & mask` (R122). -/
theorem getLsbD_halfPermuteAt (a mask : Word) (dist : Nat) {i : Nat} (hi : i < 32) :
    (halfPermuteAt a dist mask).getLsbD i =
      ((a.getLsbD i ^^ (((!decide (i < dist) && a.getLsbD (i - dist)) ^^ a.getLsbD i) && mask.getLsbD i)) ^^
        ((a.getLsbD i ^^ a.getLsbD (dist + i)) && mask.getLsbD (dist + i))) := by
  have hdown : dist + i - dist = i := Nat.add_sub_cancel_left dist i
  have hge : ¬dist + i < dist := by omega
  simp only [halfPermuteAt, BitVec.getLsbD_xor, BitVec.getLsbD_and, BitVec.getLsbD_shiftLeft,
    BitVec.getLsbD_ushiftRight, hi, hdown, hge, decide_true, decide_false, Bool.not_false, Bool.true_and]
  by_cases hup : dist + i < 32
  · simp only [hup, decide_true, Bool.true_and]
  · have hout (w : Word) : w.getLsbD (dist + i) = false := BitVec.getLsbD_of_ge _ _ (by omega)
    simp only [hout, Bool.and_false]

/-- If no two mask bits stand D apart and none is below D, half-permute takes bit i from D places down where the mask has
bit i, and from D places up where it has bit i + D (R123). -/
theorem getLsbD_halfPermuteAt_swap {mask : Word} {dist : Nat} (hapart : mask &&& (mask >>> dist) = 0)
    (hlow : ∀ i, i < dist → mask.getLsbD i = false) (a : Word) {i : Nat} (hi : i < 32) :
    (halfPermuteAt a dist mask).getLsbD i =
      if mask.getLsbD i then a.getLsbD (i - dist)
      else if mask.getLsbD (i + dist) then a.getLsbD (i + dist) else a.getLsbD i := by
  have hswap : ∀ x y : Bool, (x ^^ (y ^^ x)) = y ∧ (x ^^ (x ^^ y)) = y := by decide
  have hpair : (mask.getLsbD i && mask.getLsbD (dist + i)) = false := by
    simpa using congrArg (BitVec.getLsbD · i) hapart
  rw [getLsbD_halfPermuteAt a mask dist hi, Nat.add_comm i dist]
  cases hm : mask.getLsbD i with
  | false => cases mask.getLsbD (dist + i) <;> simp [hswap]
  | true =>
    have hge : ¬i < dist := fun h => absurd (hm.symm.trans (hlow i h)) (by decide)
    have hup : mask.getLsbD (dist + i) = false := by simpa [hm] using hpair
    simp [hge, hup, hswap]

/-- Settles O29: the two mask bits that would clash are excluded by the hypotheses, and each remaining case takes one bit. -/
theorem halfPermuteSwapsSelectedBits : Obligations.HalfPermuteSwapsSelectedBits := by
  unfold Obligations.HalfPermuteSwapsSelectedBits
  exact fun a mask dist _ _ hapart hlow i hi => getLsbD_halfPermuteAt_swap hapart hlow a hi

/-- Settles O30: the checked forms test the distance and nothing else; distance 18 is the spec's own call. -/
theorem distancesOutOfRangeAreRefused : Obligations.DistancesOutOfRangeAreRefused := by
  unfold Obligations.DistancesOutOfRangeAreRefused
  exact ⟨fun a b mask n hn => dif_neg (by omega), fun a b mask n => dif_pos n.isLt,
    fun a mask n hn => if_neg (by omega), fun a mask n hlo hhi => if_pos ⟨hlo, hhi⟩, fun a mask => rfl⟩

/-! ### O36 -/

/-- Settles O36: a mask below bit 16 selects pairs (i, i + 16), and the selected difference is XOR-ed into both. -/
theorem masksSwapExpansionBits : Obligations.MasksSwapExpansionBits := by
  unfold Obligations.MasksSwapExpansionBits
  intro r mask subkey hmask i hi
  have hswap : ∀ x y : Bool, ((x ^^ y) ^^ x) = y ∧ ((x ^^ y) ^^ y) = x := by decide
  have hhigh : mask.getLsbD (16 + i) = false := by simpa using congrArg (BitVec.getLsbD · i) hmask
  rw [getLsbD_expandHalf _ _ _ (by omega), getLsbD_expandHalf _ _ _ (by omega), Nat.add_comm i 16, hhigh,
    Nat.add_sub_cancel_left]
  cases mask.getLsbD i <;> simp [hi, hswap]

end Sys2Proof.Machine
end

section
/-! SUPPORT. The masks and the result of a salt: one character twice, injectivity of the masks and of the encoding, and the
form of a HASH result (43_salt_mixer.md section 3, 45_encoder.md section 3). -/

namespace Sys2Proof.Machine

/-! ### The fields of a packed SALT -/

section
variable (len : BitVec 2) (b a : Byte)

theorem saltCh0_packed : saltCh0 (len ++ b ++ a) = a := by
  apply BitVec.eq_of_getLsbD_eq
  intro i hi
  rw [saltCh0, BitVec.getLsbD_extractLsb', BitVec.getLsbD_append]
  simp [hi]

theorem saltCh1_packed : saltCh1 (len ++ b ++ a) = b := by
  apply BitVec.eq_of_getLsbD_eq
  intro i hi
  rw [saltCh1, BitVec.getLsbD_extractLsb', BitVec.getLsbD_append, BitVec.getLsbD_append]
  simp [hi]

theorem saltLen_packed : saltLen (len ++ b ++ a) = len := by
  apply BitVec.eq_of_getLsbD_eq
  intro i hi
  rw [saltLen, BitVec.getLsbD_extractLsb', BitVec.getLsbD_append, BitVec.getLsbD_append, if_neg (by omega),
    if_neg (by omega), decide_eq_true hi, Bool.true_and]
  congr 1
  omega

/-- A salt of one character counts that character twice, whatever CH1 holds (R152). -/
theorem effectiveSalt_one : effectiveSalt ((1 : BitVec 2) ++ b ++ a) = (1 : BitVec 1) ++ a ++ a := by
  simp only [effectiveSalt, saltLen_packed, saltCh0_packed]
  rfl

/-- A salt of two characters is both, under VALID (R152). -/
theorem effectiveSalt_two : effectiveSalt ((2 : BitVec 2) ++ b ++ a) = (1 : BitVec 1) ++ b ++ a := by
  simp only [effectiveSalt, saltLen_packed, saltCh0_packed, saltCh1_packed]
  rfl

theorem swapMask0_packed : swapMask0 ((1 : BitVec 1) ++ b ++ a) = (conSalt a).setWidth 32 := by
  exact (swapMask0_of_valid (effValid_packed b a)).trans
    (congrArg (fun c => (conSalt c).setWidth 32) (effCh0_packed b a))

theorem swapMask1_packed : swapMask1 ((1 : BitVec 1) ++ b ++ a) = (conSalt b).setWidth 32 <<< 4 := by
  exact (swapMask1_of_valid (effValid_packed b a)).trans
    (congrArg (fun c => (conSalt c).setWidth 32 <<< 4) (effCh1_packed b a))

end

/-! ### O37 -/

/-- Different alphabet characters have different table values (R101). -/
theorem conSalt_injective_of_isAlphabet {a c : Byte} (ha : isAlphabet a = true) (hc : isAlphabet c = true)
    (h : conSalt a = conSalt c) : a = c := by
  simp only [isAlphabet, List.any_eq_true, beq_iff_eq] at ha hc
  obtain ⟨m, -, rfl⟩ := ha
  obtain ⟨n, -, rfl⟩ := hc
  rw [conSalt_lookup, conSalt_lookup] at h
  rw [h]

/-- A mask shows the value it is made of, in bits 5:0 or in bits 9:4 (R151). -/
theorem sextetAt_mask : ∀ x : Sextet, sextetAt (x.setWidth 32) 0 = x ∧ sextetAt (x.setWidth 32 <<< 4) 4 = x := by
  decide +kernel

/-- Settles O37: one character and that character twice have one effective salt, and a mask shows its character's table
value, which is its place in the alphabet. -/
theorem saltDuplicationAndMaskInjectivity : Obligations.SaltDuplicationAndMaskInjectivity := by
  unfold Obligations.SaltDuplicationAndMaskInjectivity
  refine ⟨fun c x => (effectiveSalt_one x c).trans (effectiveSalt_two c c).symm, fun a b c d ha hb hc hd h0 h1 => ?_⟩
  rw [effectiveSalt_two, effectiveSalt_two] at h0 h1
  rw [swapMask0_packed, swapMask0_packed] at h0
  rw [swapMask1_packed, swapMask1_packed] at h1
  have hval0 : conSalt a = conSalt c :=
    ((sextetAt_mask _).1.symm.trans (congrArg (sextetAt · 0) h0)).trans (sextetAt_mask _).1
  have hval1 : conSalt b = conSalt d :=
    ((sextetAt_mask _).2.symm.trans (congrArg (sextetAt · 4) h1)).trans (sextetAt_mask _).2
  exact ⟨conSalt_injective_of_isAlphabet ha hc hval0, conSalt_injective_of_isAlphabet hb hd hval1⟩

/-! ### O34 -/

/-- Settles O34: the schedule is a function of the key bytes, and a key byte of bits 6:0 of its secret byte. -/
theorem scheduleReadsOnlyTheKeyBits : Obligations.ScheduleReadsOnlyTheKeyBits := by
  unfold Obligations.ScheduleReadsOnlyTheKeyBits
  exact fun s0 s1 u0 u1 len len' hcount hbits => keySched_congr hcount hbits

/-! ### O40 -/

/-- The groups show every bit of the stream. -/
theorem getLsbD_outByte (ob : Vector Byte 9) {n : Nat} (hn : n < 64) :
    (ob[n / 8]'(by omega)).getLsbD (7 - n % 8) = (groupValue ob ⟨n / 6, by omega⟩).getLsbD (5 - n % 6) := by
  have hindex : 6 * (n / 6) + (5 - (5 - n % 6)) = n := by omega
  rw [getLsbD_groupValue ob ⟨n / 6, by omega⟩ (by omega : 5 - n % 6 < 6)]
  simp only [hindex]

/-- The group values determine the output bytes. -/
theorem outBytes_eq_of_groupValue_eq {ob ob' : Vector Byte 9} (h : ∀ g, groupValue ob g = groupValue ob' g) {k : Nat}
    (hk : k < 8) : ob[k] = ob'[k] := by
  apply BitVec.eq_of_getLsbD_eq
  intro i hi
  have hbyte : (8 * k + (7 - i)) / 8 = k := by omega
  have hbit : 7 - (8 * k + (7 - i)) % 8 = i := by omega
  have hstream (b : Vector Byte 9) : b[k].getLsbD i = (groupValue b ⟨(8 * k + (7 - i)) / 6, by omega⟩).getLsbD
      (5 - (8 * k + (7 - i)) % 6) := by
    rw [← getLsbD_outByte b (by omega)]
    simp only [hbyte, hbit]
  rw [hstream, hstream, h]

/-- The characters of a result determine the group values. -/
theorem groupValue_eq_of_charResult_eq {eff : BitVec 17} {ob ob' : Vector Byte 9} (h : charResult eff ob = charResult eff ob')
    (g : Fin 11) : groupValue ob g = groupValue ob' g := by
  have hchar : groupChar ob g = groupChar ob' g := by
    rw [← resultChar_add_two_of_charResult State.reset eff ob g, h, resultChar_add_two_of_charResult]
  rw [← conSalt_lookup (groupValue ob g), ← conSalt_lookup (groupValue ob' g)]
  exact congrArg conSalt hchar

/-- Settles O40: the characters show the group values, these the output bytes, and these OUT0 and OUT1. -/
theorem encodingIsInjective : Obligations.EncodingIsInjective := by
  unfold Obligations.EncodingIsInjective
  intro eff o0 o1 p0 p1 hvalid h
  rw [encodeResult_of_valid hvalid, encodeResult_of_valid hvalid] at h
  have hbyte {k : Nat} (hk : k < 8) : (outBytes o0 o1)[k] = (outBytes p0 p1)[k] :=
    outBytes_eq_of_groupValue_eq (groupValue_eq_of_charResult_eq h) hk
  refine ⟨?_, ?_⟩
  · rw [← wordOfBytes_bytes o0, ← wordOfBytes_bytes p0]
    congr 1
    · exact hbyte (k := 0) (by decide)
    · exact hbyte (k := 1) (by decide)
    · exact hbyte (k := 2) (by decide)
    · exact hbyte (k := 3) (by decide)
  · rw [← wordOfBytes_bytes o1, ← wordOfBytes_bytes p1]
    congr 1
    · exact hbyte (k := 4) (by decide)
    · exact hbyte (k := 5) (by decide)
    · exact hbyte (k := 6) (by decide)
    · exact hbyte (k := 7) (by decide)

/-! ### O41 -/

/-- Characters 2 to 12 of a result are alphabet characters (R183). -/
theorem isAlphabet_resultChar_of_charResult (s : State) (eff : BitVec 17) (ob : Vector Byte 9) {k : Fin 13}
    (hk : 2 ≤ k.val) : isAlphabet ((s.withResult (charResult eff ob)).commit.resultChar k) = true := by
  have hgroup := resultChar_add_two_of_charResult s eff ob ⟨k.val - 2, by omega⟩
  simp only [Nat.sub_add_cancel hk] at hgroup
  rw [hgroup]
  exact isAlphabet_lookup _

/-- The last group has four bits of the output, so its character is one of sixteen (R185). -/
theorem resultChar_last_of_charResult (s : State) (eff : BitVec 17) (out0 out1 : Word) :
    (s.withResult (charResult eff (outBytes out0 out1))).commit.resultChar 12 ∈
      ([0x2E, 0x32, 0x36, 0x41, 0x45, 0x49, 0x4D, 0x51, 0x55, 0x59, 0x63, 0x67, 0x6B, 0x6F, 0x73, 0x77] : List Byte) := by
  have hlast := resultChar_of_groupValue_eq (s := s) (eff := eff) (g := 10) (groupValue_outBytes_last out0 out1)
  refine (congrArg (· ∈ _) hlast).mpr ?_
  generalize (byteOfWord out1 3).extractLsb' 0 4 = x
  revert x
  decide +kernel

/-- Settles O41: the first two characters are the effective salt's, and the others are the groups'. -/
theorem hashEchoesTheSalt : Obligations.HashEchoesTheSalt := by
  unfold Obligations.HashEchoesTheSalt
  intro s hsalt
  have hexec := exec_hash_of_salt hsalt
  rw [State.withHash, encodeResult_of_valid ((effValid_effectiveSalt _).mpr hsalt)] at hexec
  refine ⟨_, hexec, ?_, ?_, fun k hk => isAlphabet_resultChar_of_charResult _ _ _ hk,
    resultChar_last_of_charResult ..⟩
  · exact (resultChar_zero_of_charResult ..).trans (effCh0_effectiveSalt hsalt)
  · exact (resultChar_one_of_charResult ..).trans (effCh1_effectiveSalt hsalt)

end Sys2Proof.Machine
end

section
/-! SUPPORT. The tables bit by bit (40_tables.md section 6): each SKB and SPTRANS entry is a selection of FIPS 46 bits. -/

namespace Sys2Proof.Machine

/-! ### O26, O27 -/

theorem skb_generated : ∀ (k : Fin 8) (x : Sextet), (skb[k]).lookup x = skbGenerated k x := by decide +kernel

theorem sptrans_generated : ∀ (q : Fin 8) (x : Sextet), (sptrans[q]).lookup x = sptransGenerated q x := by
  decide +kernel

/-- Settles O26: a check of every entry of the sixteen tables. -/
theorem tablesFollowTheGenerationRules : Obligations.TablesFollowTheGenerationRules :=
  ⟨skb_generated, sptrans_generated⟩

/-- Settles O27: a check of every entry of the sixteen tables. -/
theorem tableEntriesStayInTheirMasks : Obligations.TableEntriesStayInTheirMasks := by
  unfold Obligations.TableEntriesStayInTheirMasks
  decide +kernel

/-! ### The bits of a generated entry -/

/-- Setting bits of a word one after the other: bit p is set if it was, or if some selected position is p. -/
theorem getLsbD_foldl_setBit (sel : Nat → Bool) (target : Nat → Nat) (L : List Nat) (w : Word) {p : Nat} (hp : p < 32) :
    (L.foldl (fun (w : Word) j => if sel j then w ||| ((1 <<< target j : Nat) : Word) else w) w).getLsbD p =
      (w.getLsbD p || L.any fun j => sel j && decide (target j = p)) := by
  induction L generalizing w with
  | nil => simp
  | cons j L ih =>
    have hbit : ((1 <<< target j : Nat) : Word).getLsbD p = decide (target j = p) := by
      rw [Nat.one_shiftLeft, BitVec.natCast_eq_ofNat, BitVec.getLsbD_ofNat, Nat.testBit_two_pow, decide_eq_true hp, Bool.true_and]
    rw [List.foldl_cons, ih, List.any_cons]
    cases sel j
    · simp
    · rw [if_pos rfl, BitVec.getLsbD_or, hbit, Bool.true_and, Bool.or_assoc]

/-- A selection that moves several bits shows at position p the one bit it moves there. -/
theorem any_moved_eq {L : List (Nat × Nat)} {x p : Nat} (hmem : (x, p) ∈ L) (huniq : ∀ e ∈ L, e.2 = p → e.1 = x)
    (f : Nat → Bool) : (L.any fun e => f e.1 && decide (e.2 = p)) = f x := by
  rw [Bool.eq_iff_iff, List.any_eq_true]
  constructor
  · rintro ⟨e, he, hf⟩
    simp only [Bool.and_eq_true, decide_eq_true_eq] at hf
    obtain ⟨hf, hp⟩ := hf
    rwa [← huniq e he hp]
  · exact fun hf => ⟨(x, p), hmem, by simp [hf]⟩

/-- What SKB[k] moves: each bit of the key half it reads, with the bit of the subkey word it sets (R110). -/
def skbMoves (k : Fin 8) : List (Nat × Nat) := (List.range 6).map fun j => ((skbFields[k]).getD j 0, skbTarget k j)

/-- An SKB entry for an index made of the bits of a key half it reads. -/
theorem getLsbD_lookup_skb {k : Fin 8} {w : Word} {x : Sextet}
    (hx : ∀ j, j < 6 → x.getLsbD j = w.getLsbD ((skbFields[k]).getD j 0)) {p : Nat} (hp : p < 32) :
    ((skb[k]).lookup x).getLsbD p = (skbMoves k).any fun e => w.getLsbD e.1 && decide (e.2 = p) := by
  rw [skb_generated, skbGenerated, getLsbD_foldl_setBit _ _ _ _ hp, skbMoves, List.any_map,
    show (0 : Word).getLsbD p = false from BitVec.getLsbD_zero, Bool.false_or, Bool.eq_iff_iff, List.any_eq_true, List.any_eq_true]
  refine exists_congr fun j => and_congr_right fun hj => ?_
  simp [hx j (List.mem_range.mp hj)]

/-- `s` moves the bits of c that the first four tables read (R134). -/
theorem getLsbD_compressC (c : Word) {p : Nat} (hp : p < 32) :
    (compressC c).getLsbD p =
      (skbMoves 0 ++ skbMoves 1 ++ skbMoves 2 ++ skbMoves 3).any fun e => c.getLsbD e.1 && decide (e.2 = p) := by
  simp only [compressC, BitVec.getLsbD_or, List.any_append]
  refine congrArg₂ or (congrArg₂ or (congrArg₂ or (getLsbD_lookup_skb (k := 0) (fun j hj => ?_) hp)
    (getLsbD_lookup_skb (k := 1) (fun j hj => ?_) hp)) (getLsbD_lookup_skb (k := 2) (fun j hj => ?_) hp))
    (getLsbD_lookup_skb (k := 3) (fun j hj => ?_) hp)
  all_goals
    simp only [sextetAt, BitVec.getLsbD_append, BitVec.getLsbD_extractLsb']
    interval_cases j <;> simp [skbFields]

/-- `t` moves the bits of d that the last four tables read (R134). -/
theorem getLsbD_compressD (d : Word) {p : Nat} (hp : p < 32) :
    (compressD d).getLsbD p =
      (skbMoves 4 ++ skbMoves 5 ++ skbMoves 6 ++ skbMoves 7).any fun e => d.getLsbD e.1 && decide (e.2 = p) := by
  simp only [compressD, BitVec.getLsbD_or, List.any_append]
  refine congrArg₂ or (congrArg₂ or (congrArg₂ or (getLsbD_lookup_skb (k := 4) (fun j hj => ?_) hp)
    (getLsbD_lookup_skb (k := 5) (fun j hj => ?_) hp)) (getLsbD_lookup_skb (k := 6) (fun j hj => ?_) hp))
    (getLsbD_lookup_skb (k := 7) (fun j hj => ?_) hp)
  all_goals
    simp only [sextetAt, BitVec.getLsbD_append, BitVec.getLsbD_extractLsb']
    interval_cases j <;> simp [skbFields]

/-- In `s`, the group of S-box q+1 (of S1 to S4) holds the PC2 bits of that group, which are bits of c (R110). -/
theorem getLsbD_compressC_group (c : Word) {q : Fin 8} (hq : q.val < 4) {j : Nat} (hj : j < 6) :
    (compressC c).getLsbD (skbBase q.val + j) = c.getLsbD (fipsPc2.getD (6 * q.val + j) 0 - 1) := by
  have hmoves : ∀ q : Fin 4, ∀ j : Fin 6,
      (fipsPc2.getD (6 * q.val + j.val) 0 - 1, skbBase q.val + j.val) ∈ skbMoves 0 ++ skbMoves 1 ++ skbMoves 2 ++ skbMoves 3 ∧
      (∀ e ∈ skbMoves 0 ++ skbMoves 1 ++ skbMoves 2 ++ skbMoves 3, e.2 = skbBase q.val + j.val →
        e.1 = fipsPc2.getD (6 * q.val + j.val) 0 - 1) ∧ skbBase q.val + j.val < 32 := by decide +kernel
  obtain ⟨hmem, huniq, hp⟩ := hmoves ⟨q.val, hq⟩ ⟨j, hj⟩
  exact (getLsbD_compressC c hp).trans (any_moved_eq hmem huniq _)

/-- In `t`, the group of S-box q+1 (of S5 to S8) holds the PC2 bits of that group, which are bits of d (R110). -/
theorem getLsbD_compressD_group (d : Word) {q : Fin 8} (hq : 4 ≤ q.val) {j : Nat} (hj : j < 6) :
    (compressD d).getLsbD (skbBase q.val + j) = d.getLsbD (fipsPc2.getD (6 * q.val + j) 0 - 29) := by
  have hmoves : ∀ q : Fin 8, 4 ≤ q.val → ∀ j : Fin 6,
      (fipsPc2.getD (6 * q.val + j.val) 0 - 29, skbBase q.val + j.val) ∈ skbMoves 4 ++ skbMoves 5 ++ skbMoves 6 ++ skbMoves 7 ∧
      (∀ e ∈ skbMoves 4 ++ skbMoves 5 ++ skbMoves 6 ++ skbMoves 7, e.2 = skbBase q.val + j.val →
        e.1 = fipsPc2.getD (6 * q.val + j.val) 0 - 29) ∧ skbBase q.val + j.val < 32 := by decide +kernel
  obtain ⟨hmem, huniq, hp⟩ := hmoves q hq ⟨j, hj⟩
  exact (getLsbD_compressD d hp).trans (any_moved_eq hmem huniq _)

end Sys2Proof.Machine
end

section
/-! SUPPORT. The key schedule round by round (42_key_scheduler.md): the key halves of each round, the bits its words leave
unused, and its rotations and compression as those of FIPS 46. -/

namespace Sys2Proof.Machine

/-! ### The words of a key round -/

/-- The key halves after the given rotations (R133). -/
def rotatedKey (flags : List (BitVec 1)) (h : KeyHalves) : KeyHalves := flags.foldl (fun h flag => rotateKey flag h) h

/-- The two subkey words a round makes of its rotated key halves (R134, R135). -/
def subkeyWords (h : KeyHalves) : Word × Word :=
  (subkeyEven (compressC h.c) (compressD h.d), subkeyOdd (compressC h.c) (compressD h.d))

/-- Round k's two words are those of the key halves after k + 1 rotations. -/
theorem getElem?_keyRounds {flags : List (BitVec 1)} {k : Nat} (hk : k < flags.length) (h : KeyHalves) :
    (keyRounds flags h)[2 * k]? = some (subkeyWords (rotatedKey (flags.take (k + 1)) h)).1 ∧
    (keyRounds flags h)[2 * k + 1]? = some (subkeyWords (rotatedKey (flags.take (k + 1)) h)).2 := by
  induction flags generalizing h k with
  | nil => exact absurd hk (Nat.not_lt_zero k)
  | cons flag flags ih =>
    cases k with
    | zero => exact ⟨rfl, rfl⟩
    | succ k => exact ih (Nat.lt_of_succ_lt_succ hk) (rotateKey flag h)

/-- The key halves of round k of a secret's schedule. -/
def roundKey (s0 s1 : Word) (len : BitVec 8) (k : Nat) : KeyHalves :=
  rotatedKey (shifts2.toList.take (k + 1)) (permuteKey (packKey s0 s1 len))

theorem getElem_keySched_round (s0 s1 : Word) (len : BitVec 8) (k : Fin 16) :
    (keySched s0 s1 len)[2 * k.val]'(by omega) = (subkeyWords (roundKey s0 s1 len k)).1 ∧
    (keySched s0 s1 len)[2 * k.val + 1]'(by omega) = (subkeyWords (roundKey s0 s1 len k)).2 := by
  obtain ⟨heven, hodd⟩ := getElem?_keyRounds (flags := shifts2.toList) (k := k.val) k.isLt
    (permuteKey (packKey s0 s1 len))
  simp only [getElem_keySched]
  exact ⟨(List.getElem?_eq_some_iff.mp heven).2, (List.getElem?_eq_some_iff.mp hodd).2⟩

/-! ### The bits of the subkey words -/

/-- An even word holds the low half of `s`, then the low half of `t` (R135). -/
theorem getLsbD_subkeyEven (s t : Word) {i : Nat} (hi : i < 32) :
    (subkeyEven s t).getLsbD i = if i < 16 then s.getLsbD i else t.getLsbD (i - 16) := by
  have hmask : ∀ i : Fin 32, (0x0000FFFF : Word).getLsbD i = decide (i.val < 16) := by decide
  simp only [subkeyEven, BitVec.getLsbD_or, BitVec.getLsbD_and, BitVec.getLsbD_shiftLeft, hmask ⟨i, hi⟩]
  by_cases h : i < 16 <;> simp [h, hi]

theorem getLsbD_rotl32 (x : Word) {n i : Nat} (hn : n < 32) (hi : i < 32) :
    (rotl32 x n).getLsbD i = x.getLsbD ((i + (32 - n)) % 32) := by
  simp only [rotl32, BitVec.getLsbD_or, BitVec.getLsbD_shiftLeft, BitVec.getLsbD_ushiftRight, hi, decide_true,
    Bool.true_and]
  by_cases h : i < n
  · have hmod : (i + (32 - n)) % 32 = 32 - n + i := by omega
    simp [h, hmod]
  · have hmod : (i + (32 - n)) % 32 = i - n := by omega
    have hout : x.getLsbD (32 - n + i) = false := BitVec.getLsbD_of_ge _ _ (by omega)
    simp [h, hmod, hout]

/-- A rotation right in one index. -/
theorem getLsbD_rotr32_mod (x : Word) {n i : Nat} (hn : n < 32) (hi : i < 32) :
    (rotr32 x n).getLsbD i = x.getLsbD ((i + n) % 32) := by
  rw [getLsbD_rotr32 x hn hi]
  split
  · next h => rw [Nat.mod_eq_of_lt h]
  · next h => rw [Nat.mod_eq_sub_mod (by omega), Nat.mod_eq_of_lt (by omega)]

/-- An odd word, its rotation undone, holds the high half of `s`, then the high half of `t` (R135). -/
theorem getLsbD_rotr32_subkeyOdd (s t : Word) {i : Nat} (hi : i < 32) :
    (rotr32 (subkeyOdd s t) 4).getLsbD i = if i < 16 then s.getLsbD (i + 16) else t.getLsbD i := by
  have hmask : ∀ i : Fin 32, (0xFFFF0000 : Word).getLsbD i = !decide (i.val < 16) := by decide
  have hback : ((i + 4) % 32 + (32 - 4)) % 32 = i := by omega
  rw [getLsbD_rotr32_mod _ (by decide) hi, subkeyOdd, getLsbD_rotl32 _ (by decide) (Nat.mod_lt _ (by decide)), hback]
  simp only [BitVec.getLsbD_or, BitVec.getLsbD_and, BitVec.getLsbD_ushiftRight, hmask ⟨i, hi⟩]
  by_cases h : i < 16
  · simp [h, Nat.add_comm]
  · have hout : s.getLsbD (16 + i) = false := BitVec.getLsbD_of_ge _ _ (by omega)
    simp [h, hout]

/-! ### O33 -/

/-- A word with nothing between its four 6-bit groups (R106). -/
def SextetsOnly (w : Word) : Prop := ∀ i, 6 ≤ i % 8 → w.getLsbD i = false

theorem sextetsOnly_of_moves {w v : Word} {L : List (Nat × Nat)}
    (hw : ∀ p, p < 32 → w.getLsbD p = L.any fun e => v.getLsbD e.1 && decide (e.2 = p)) (hL : ∀ e ∈ L, e.2 % 8 < 6) :
    SextetsOnly w := by
  intro i hi
  by_cases hlt : i < 32
  · rw [hw i hlt, List.any_eq_false]
    intro e he
    have hne : e.2 ≠ i := fun h => absurd (hL e he) (by omega)
    simp [hne]
  · exact BitVec.getLsbD_of_ge _ _ (by omega)

theorem sextetsOnly_compressC (c : Word) : SextetsOnly (compressC c) :=
  sextetsOnly_of_moves (fun _ => getLsbD_compressC c) (by decide +kernel)

theorem sextetsOnly_compressD (d : Word) : SextetsOnly (compressD d) :=
  sextetsOnly_of_moves (fun _ => getLsbD_compressD d) (by decide +kernel)

theorem subkeyEven_and_unused {s t : Word} (hs : SextetsOnly s) (ht : SextetsOnly t) :
    subkeyEven s t &&& 0xC0C0C0C0 = 0 := by
  have hmask : ∀ i : Fin 32, (0xC0C0C0C0 : Word).getLsbD i = decide (6 ≤ i.val % 8) := by decide
  apply BitVec.eq_of_getLsbD_eq
  intro i hi
  rw [BitVec.getLsbD_and, hmask ⟨i, hi⟩, getLsbD_subkeyEven s t hi]
  by_cases hgap : 6 ≤ i % 8
  · have hgroups : (if i < 16 then s.getLsbD i else t.getLsbD (i - 16)) = false := by
      split
      · exact hs i hgap
      · exact ht (i - 16) (by omega)
    rw [hgroups]
    simp
  · rw [decide_eq_false hgap]
    simp

theorem subkeyOdd_and_unused {s t : Word} (hs : SextetsOnly s) (ht : SextetsOnly t) :
    subkeyOdd s t &&& 0x0C0C0C0C = 0 := by
  have hmask : ∀ i : Fin 32, (0x0C0C0C0C : Word).getLsbD i = decide (6 ≤ (i.val + 28) % 32 % 8) := by decide
  apply BitVec.eq_of_getLsbD_eq
  intro i hi
  have hback : ((i + 28) % 32 + 4) % 32 = i := by omega
  have hrot : (subkeyOdd s t).getLsbD i = (rotr32 (subkeyOdd s t) 4).getLsbD ((i + 28) % 32) := by
    rw [getLsbD_rotr32_mod _ (by decide) (Nat.mod_lt _ (by decide)), hback]
  rw [BitVec.getLsbD_and, hmask ⟨i, hi⟩, hrot, getLsbD_rotr32_subkeyOdd s t (Nat.mod_lt _ (by decide))]
  by_cases hgap : 6 ≤ (i + 28) % 32 % 8
  · rw [hs ((i + 28) % 32 + 16) (by omega), ht _ hgap]
    simp
  · rw [decide_eq_false hgap]
    simp

/-- Settles O33: the compressed halves have nothing between their 6-bit groups, and the two words keep the groups. -/
theorem scheduleLeavesUnusedBitsZero : Obligations.ScheduleLeavesUnusedBitsZero := by
  unfold Obligations.ScheduleLeavesUnusedBitsZero
  intro s0 s1 len k
  obtain ⟨heven, hodd⟩ := getElem_keySched_round s0 s1 len k
  rw [heven, hodd]
  exact ⟨subkeyEven_and_unused (sextetsOnly_compressC _) (sextetsOnly_compressD _),
    subkeyOdd_and_unused (sextetsOnly_compressC _) (sextetsOnly_compressD _)⟩

/-! ### The rotations (O32) -/

/-- A key half uses 28 bits (10_state.md R42). -/
theorem getLsbD_of_u28 {x : Word} (hx : x >>> 28 = 0) {i : Nat} (hi : 28 ≤ i) : x.getLsbD i = false := by
  have h := congrArg (BitVec.getLsbD · (i - 28)) hx
  simpa [Nat.add_sub_cancel' hi] using h

/-- `rotr28` moves bit i + n of a u28 value to bit i, modulo 28 (00_scope.md R13). -/
theorem getLsbD_rotr28 {x : Word} (hx : x >>> 28 = 0) {n i : Nat} (hn : n ≤ 28) (hi : i < 28) :
    (rotr28 x n).getLsbD i = x.getLsbD ((i + n) % 28) := by
  have hmask : ∀ i : Fin 28, (0x0FFFFFFF : Word).getLsbD i = true := by decide
  have hi32 : i < 32 := by omega
  simp only [rotr28, BitVec.getLsbD_and, BitVec.getLsbD_or, BitVec.getLsbD_ushiftRight, BitVec.getLsbD_shiftLeft,
    hmask ⟨i, hi⟩, hi32, decide_true, Bool.true_and, Bool.and_true]
  by_cases h : i < 28 - n
  · have hmod : (i + n) % 28 = n + i := by omega
    simp [h, hmod]
  · have hmod : (i + n) % 28 = i - (28 - n) := by omega
    simp [h, hmod, getLsbD_of_u28 hx (i := n + i) (by omega)]

theorem rotr28_u28 (x : Word) (n : Nat) : rotr28 x n >>> 28 = 0 := by
  have hmask : (0x0FFFFFFF : Word) >>> 28 = 0 := by decide
  rw [rotr28, BitVec.ushiftRight_and_distrib, hmask]
  exact BitVec.and_zero

/-- A rotation in FIPS 46 is the list rotation. -/
theorem fipsRotate_eq_rotate {n : Nat} {bits : List Bool} (h : n ≤ bits.length) : fipsRotate n bits = bits.rotate n :=
  (List.rotate_eq_drop_append_take h).symm

theorem length_keyHalfBits (x : Word) : (keyHalfBits x).length = 28 := by simp [keyHalfBits]

theorem getElem_keyHalfBits (x : Word) {i : Nat} (hi : i < (keyHalfBits x).length) :
    (keyHalfBits x)[i] = x.getLsbD i := by simp [keyHalfBits]

/-- `rotr28` rotates the FIPS bits of a key half left (R112, R133). -/
theorem keyHalfBits_rotr28 {x : Word} (hx : x >>> 28 = 0) {n : Nat} (hn : n ≤ 28) :
    keyHalfBits (rotr28 x n) = (keyHalfBits x).rotate n := by
  refine List.ext_getElem (by simp [length_keyHalfBits]) fun i hi _ => ?_
  rw [length_keyHalfBits] at hi
  rw [List.getElem_rotate, getElem_keyHalfBits, getElem_keyHalfBits, length_keyHalfBits, getLsbD_rotr28 hx hn hi]

/-- A u28 value is its FIPS bits. -/
theorem eq_of_keyHalfBits_eq {x y : Word} (hx : x >>> 28 = 0) (hy : y >>> 28 = 0) (h : keyHalfBits x = keyHalfBits y) :
    x = y := by
  apply BitVec.eq_of_getLsbD_eq
  intro i _
  by_cases hi : i < 28
  · rw [← getElem_keyHalfBits x (by simpa [length_keyHalfBits] using hi),
      ← getElem_keyHalfBits y (by simpa [length_keyHalfBits] using hi)]
    simp only [h]
  · rw [getLsbD_of_u28 hx (by omega), getLsbD_of_u28 hy (by omega)]

/-- How far a SHIFTS2 flag rotates (R102, R133). -/
def flagShift (flag : BitVec 1) : Nat := if flag = 1 then 2 else 1

theorem flagShift_le (flag : BitVec 1) : flagShift flag ≤ 28 := by revert flag; decide

theorem rotateKey_eq (flag : BitVec 1) (h : KeyHalves) :
    rotateKey flag h = ⟨rotr28 h.c (flagShift flag), rotr28 h.d (flagShift flag)⟩ := rfl

/-- Both key halves are u28 values (R42). -/
def KeyHalves.U28 (h : KeyHalves) : Prop := h.c >>> 28 = 0 ∧ h.d >>> 28 = 0

theorem rotateKey_u28 (flag : BitVec 1) (h : KeyHalves) : (rotateKey flag h).U28 :=
  ⟨rotr28_u28 _ _, rotr28_u28 _ _⟩

theorem rotatedKey_u28 {h : KeyHalves} (hu : h.U28) (flags : List (BitVec 1)) : (rotatedKey flags h).U28 := by
  induction flags generalizing h with
  | nil => exact hu
  | cons flag flags ih => exact ih (rotateKey_u28 flag h)

/-- A list of rotations rotates the FIPS bits of both halves by the sum of its distances. -/
theorem keyHalfBits_rotatedKey {h : KeyHalves} (hu : h.U28) (flags : List (BitVec 1)) :
    keyHalfBits (rotatedKey flags h).c = (keyHalfBits h.c).rotate (flags.map flagShift).sum ∧
    keyHalfBits (rotatedKey flags h).d = (keyHalfBits h.d).rotate (flags.map flagShift).sum := by
  induction flags generalizing h with
  | nil => simp [rotatedKey]
  | cons flag flags ih =>
    obtain ⟨hc, hd⟩ := ih (rotateKey_u28 flag h)
    have hstep : rotatedKey (flag :: flags) h = rotatedKey flags (rotateKey flag h) := rfl
    rw [hstep, hc, hd, rotateKey_eq, keyHalfBits_rotr28 hu.1 (flagShift_le flag),
      keyHalfBits_rotr28 hu.2 (flagShift_le flag), List.rotate_rotate, List.rotate_rotate, List.map_cons, List.sum_cons]
    exact ⟨rfl, rfl⟩

/-- Settles O32: the sixteen distances sum to 28, the length of a half. -/
theorem sixteenRotationsReturnTheKey : Obligations.SixteenRotationsReturnTheKey := by
  unfold Obligations.SixteenRotationsReturnTheKey
  intro h hc hd
  have hsum : (shifts2.toList.map flagShift).sum = 28 := by decide
  obtain ⟨hcbits, hdbits⟩ := keyHalfBits_rotatedKey ⟨hc, hd⟩ shifts2.toList
  obtain ⟨hcu, hdu⟩ := rotatedKey_u28 ⟨hc, hd⟩ shifts2.toList
  have hfull (x : Word) : (keyHalfBits x).rotate 28 = keyHalfBits x := by
    rw [← length_keyHalfBits x, List.rotate_length]
  rw [hsum, hfull] at hcbits hdbits
  exact congrArg₂ KeyHalves.mk (eq_of_keyHalfBits_eq hcu hc hcbits) (eq_of_keyHalfBits_eq hdu hd hdbits)

/-! ### The compression is PC2 (O35) -/

/-- Bit j of the group of S-box q+1 in a pair of words: the even words hold S1, S3, S5, S7 and the odd ones S2, S4, S6, S8, at
bits 5:0, 13:8, 21:16, 29:24 (R112). -/
def groupBit (w0 w1 : Word) (q : Fin 8) (j : Nat) : Bool :=
  (if q.val % 2 = 0 then w0 else w1).getLsbD (8 * (q.val / 2) + j)

/-- The subkey bits, group by group (R112). -/
theorem subkeyBits_eq (k0 k1 : Word) :
    subkeyBits k0 k1 = (List.finRange 8).flatMap fun q => (List.range 6).map (groupBit k0 (rotr32 k1 4) q) := rfl

/-- PC2, group by group. -/
theorem fipsSelect_pc2_eq (bits : List Bool) :
    fipsSelect fipsPc2 bits =
      (List.finRange 8).flatMap fun q => (List.range 6).map fun j => fipsBit bits (fipsPc2.getD (6 * q.val + j) 0) := rfl

/-- The words of a round hold the groups of `s` and `t` where R112 has them. -/
theorem groupBit_subkeyWords (h : KeyHalves) (q : Fin 8) {j : Nat} (hj : j < 6) :
    groupBit (subkeyWords h).1 (rotr32 (subkeyWords h).2 4) q j =
      if q.val < 4 then (compressC h.c).getLsbD (skbBase q.val + j) else (compressD h.d).getLsbD (skbBase q.val + j) := by
  have hlt : 8 * (q.val / 2) + j < 32 := by omega
  have hlow : 8 * (q.val / 2) + j < 16 ↔ q.val < 4 := by omega
  have heven : ∀ q : Fin 8, q.val % 2 = 0 →
      if q.val < 4 then skbBase q.val = 8 * (q.val / 2) else skbBase q.val = 8 * (q.val / 2) - 16 := by decide
  have hodd : ∀ q : Fin 8, q.val % 2 ≠ 0 →
      if q.val < 4 then skbBase q.val = 8 * (q.val / 2) + 16 else skbBase q.val = 8 * (q.val / 2) := by decide
  unfold groupBit subkeyWords
  by_cases hq : q.val % 2 = 0
  · have hbase := heven q hq
    rw [if_pos hq, getLsbD_subkeyEven _ _ hlt]
    by_cases h4 : q.val < 4
    · rw [if_pos h4] at hbase
      rw [if_pos (hlow.mpr h4), if_pos h4, hbase]
    · rw [if_neg h4] at hbase
      rw [if_neg (mt hlow.mp h4), if_neg h4, hbase, Nat.sub_add_comm (by omega)]
  · have hbase := hodd q hq
    rw [if_neg hq, getLsbD_rotr32_subkeyOdd _ _ hlt]
    by_cases h4 : q.val < 4
    · rw [if_pos h4] at hbase
      rw [if_pos (hlow.mpr h4), if_pos h4, hbase, Nat.add_right_comm]
    · rw [if_neg h4] at hbase
      rw [if_neg (mt hlow.mp h4), if_neg h4, hbase]

/-- The FIPS bit n of two key halves together, 1 to 28 in the first and 29 to 56 in the second (R112). -/
theorem fipsBit_keyHalves (h : KeyHalves) {n : Nat} (h1 : 1 ≤ n) (h56 : n ≤ 56) :
    fipsBit (keyHalfBits h.c ++ keyHalfBits h.d) n = if n ≤ 28 then h.c.getLsbD (n - 1) else h.d.getLsbD (n - 29) := by
  have hc := length_keyHalfBits h.c
  have hd := length_keyHalfBits h.d
  rw [fipsBit, List.getD_eq_getElem _ _ (by rw [List.length_append]; omega), List.getElem_append]
  by_cases hn : n ≤ 28
  · rw [dif_pos (by omega), if_pos hn, getElem_keyHalfBits]
  · rw [dif_neg (by omega), if_neg hn, getElem_keyHalfBits, hc]
    congr 1

/-- A round's two words hold PC2 of its key halves (R110, R134, R135). -/
theorem subkeyBits_subkeyWords (h : KeyHalves) :
    subkeyBits (subkeyWords h).1 (subkeyWords h).2 = fipsSelect fipsPc2 (keyHalfBits h.c ++ keyHalfBits h.d) := by
  have hpc2 : ∀ (q : Fin 8) (j : Fin 6), 1 ≤ fipsPc2.getD (6 * q.val + j.val) 0 ∧
      fipsPc2.getD (6 * q.val + j.val) 0 ≤ 56 ∧ (fipsPc2.getD (6 * q.val + j.val) 0 ≤ 28 ↔ q.val < 4) := by decide
  rw [subkeyBits_eq, fipsSelect_pc2_eq]
  refine List.flatMap_congr fun q _ => List.map_congr_left fun j hj => ?_
  have hj : j < 6 := List.mem_range.mp hj
  obtain ⟨h1, h56, hhalf⟩ := hpc2 q ⟨j, hj⟩
  rw [groupBit_subkeyWords h q hj, fipsBit_keyHalves h h1 h56]
  simp only [hhalf]
  split
  · next hq => exact getLsbD_compressC_group h.c hq hj
  · next hq => exact getLsbD_compressD_group h.d (by omega) hj

/-- Round k + 1 of the FIPS schedule is PC2 of the halves after its rotations. -/
theorem getElem?_fipsRoundKeys {h : KeyHalves} (hu : h.U28) {flags : List (BitVec 1)} {k : Nat} (hk : k < flags.length) :
    (fipsRoundKeys (flags.map flagShift) (keyHalfBits h.c) (keyHalfBits h.d))[k]? =
      some (fipsSelect fipsPc2 (keyHalfBits (rotatedKey (flags.take (k + 1)) h).c ++
        keyHalfBits (rotatedKey (flags.take (k + 1)) h).d)) := by
  induction flags generalizing h k with
  | nil => exact absurd hk (Nat.not_lt_zero k)
  | cons flag flags ih =>
    have hlen (x : Word) : flagShift flag ≤ (keyHalfBits x).length := by
      rw [length_keyHalfBits]; exact flagShift_le flag
    rw [List.map_cons, fipsRoundKeys, fipsRotate_eq_rotate (hlen _), fipsRotate_eq_rotate (hlen _),
      ← keyHalfBits_rotr28 hu.1 (flagShift_le flag), ← keyHalfBits_rotr28 hu.2 (flagShift_le flag)]
    cases k with
    | zero => rfl
    | succ k => exact ih (rotateKey_u28 flag h) (Nat.lt_of_succ_lt_succ hk)

end Sys2Proof.Machine
end

section
/-! SUPPORT. Pairs of words as 64 numbered bits: what the bit-permutation steps of the initial key permutation and of the
output permutation move where (41_bitperm.md, 42_key_scheduler.md R131, 44_feistel.md R167, R168). -/

namespace Sys2Proof.Machine

/-- Bit n of a pair of words: the first word's bits are 0 to 31, the second's 32 to 63. -/
def pairBit (w : Word × Word) (n : Nat) : Bool := if n < 32 then w.1.getLsbD n else w.2.getLsbD (n - 32)

/-- A step on a pair of words that moves bits: bit n of its result is bit `source n` of its operand. -/
def Moves (f : Word × Word → Word × Word) (source : Nat → Nat) : Prop := ∀ w n, pairBit (f w) n = pairBit w (source n)

/-- Where permute-exchange takes its bits from (R121). -/
def exchangeSource (sh : Nat) (mask : Word) (n : Nat) : Nat :=
  if n < 32 then if sh ≤ n ∧ mask.getLsbD (n - sh) = true then 32 + (n - sh) else n
  else if mask.getLsbD (n - 32) then n - 32 + sh else n

/-- permute-exchange on a pair of words. -/
def exchange (sh : Fin 32) (mask : Word) (w : Word × Word) : Word × Word := permuteExchange w.1 w.2 sh mask

/-- permute-exchange moves bits, under the condition of R120 on its mask. -/
theorem moves_exchange {sh : Fin 32} {mask : Word}
    (hmask : ∀ i : Fin 32, 32 - sh.val ≤ i.val → mask.getLsbD i = false) :
    Moves (exchange sh mask) (exchangeSource sh mask) := by
  intro w n
  unfold pairBit exchangeSource exchange
  by_cases hn : n < 32
  · rw [if_pos hn, if_pos hn, getLsbD_permuteExchange_fst_swap _ _ _ _ hn]
    split
    · rw [if_neg (by omega), Nat.add_sub_cancel_left]
    · rfl
  · rw [if_neg hn, if_neg hn, getLsbD_permuteExchange_snd_swap]
    split
    · next hm =>
      have hlt : n - 32 < 32 := by
        by_contra hge
        rw [BitVec.getLsbD_of_ge _ _ (by omega)] at hm
        cases hm
      have hfit : n - 32 + sh.val < 32 := by
        by_contra hge
        rw [hmask ⟨n - 32, hlt⟩ (by simp only; omega)] at hm
        cases hm
      rw [if_pos hfit]
    · rfl

/-- Where the exchange of the two words takes its bits from. -/
def flipSource (n : Nat) : Nat := if n < 32 then n + 32 else if n < 64 then n - 32 else n

theorem moves_swap : Moves Prod.swap flipSource := by
  intro w n
  unfold pairBit flipSource
  by_cases hn : n < 32
  · rw [if_pos hn, if_pos hn, if_neg (by omega)]
    simp
  · by_cases hn' : n < 64
    · rw [if_neg hn, if_neg hn, if_pos hn', if_pos (by omega)]
      simp
    · rw [if_neg hn, if_neg hn, if_neg hn', if_neg hn, BitVec.getLsbD_of_ge _ _ (by omega),
        BitVec.getLsbD_of_ge _ _ (by omega)]

/-- permute-exchange with the words in the other order. -/
def exchangeBack (sh : Fin 32) (mask : Word) (w : Word × Word) : Word × Word := (exchange sh mask w.swap).swap

/-- Where it takes its bits from. -/
def exchangeBackSource (sh : Nat) (mask : Word) (n : Nat) : Nat := flipSource (exchangeSource sh mask (flipSource n))

theorem moves_exchangeBack {sh : Fin 32} {mask : Word}
    (hmask : ∀ i : Fin 32, 32 - sh.val ≤ i.val → mask.getLsbD i = false) :
    Moves (exchangeBack sh mask) (exchangeBackSource sh mask) := by
  intro w n
  rw [exchangeBack, moves_swap, moves_exchange hmask, moves_swap, exchangeBackSource]

/-- Where half-permute at distance 18 takes its bits from, within a word (R123). -/
def halfSource (mask : Word) (i : Nat) : Nat :=
  if mask.getLsbD i then i - 18 else if mask.getLsbD (i + 18) then i + 18 else i

theorem getLsbD_halfPermute (a : Word) (i : Nat) :
    (halfPermute a 0xCCCC0000).getLsbD i = a.getLsbD (halfSource 0xCCCC0000 i) := by
  have hlow : ∀ i, i < 18 → (0xCCCC0000 : Word).getLsbD i = false := by decide
  unfold halfSource
  by_cases hi : i < 32
  · rw [halfPermute, getLsbD_halfPermuteAt_swap (by decide) hlow a hi]
    split
    · rfl
    · split <;> rfl
  · have hout (w : Word) : w.getLsbD i = false := BitVec.getLsbD_of_ge _ _ (by omega)
    have hout' (w : Word) : w.getLsbD (i + 18) = false := BitVec.getLsbD_of_ge _ _ (by omega)
    simp [hout, hout']

/-- half-permute of both words. -/
def halfPermuteBoth (w : Word × Word) : Word × Word := (halfPermute w.1 0xCCCC0000, halfPermute w.2 0xCCCC0000)

/-- Where it takes its bits from: each word's from within that word. -/
def halfBothSource (n : Nat) : Nat :=
  if n < 32 then halfSource 0xCCCC0000 n else 32 + halfSource 0xCCCC0000 (n - 32)

theorem moves_halfPermuteBoth : Moves halfPermuteBoth halfBothSource := by
  have hfit : ∀ i : Fin 32, halfSource 0xCCCC0000 i.val < 32 := by decide
  intro w n
  unfold pairBit halfPermuteBoth halfBothSource
  by_cases hn : n < 32
  · rw [if_pos hn, if_pos hn, getLsbD_halfPermute, if_pos (hfit ⟨n, hn⟩)]
  · rw [if_neg hn, if_neg hn, getLsbD_halfPermute, if_neg (by omega), Nat.add_sub_cancel_left]

/-! ### The bytes of a pair of words -/

/-- The FIPS string of 8 bytes takes its bit n, from 0, from this bit of the two words (R132, R172). -/
def byteOrder (n : Nat) : Nat := 8 * (n / 8) + (7 - n % 8)

theorem getLsbD_byteOfWord (w : Word) (k : Nat) {j : Nat} (hj : j < 8) : (byteOfWord w k).getLsbD j = w.getLsbD (8 * k + j) := by
  rw [byteOfWord, BitVec.getLsbD_extractLsb', decide_eq_true hj, Bool.true_and]

/-- OUT0 and OUT1 as a FIPS string, bit by bit (R172). -/
theorem outBits_eq (w : Word × Word) : outBits w.1 w.2 = (List.range 64).map fun n => pairBit w (byteOrder n) := by
  have hbytes : outBits w.1 w.2 = (List.range 64).map fun n =>
      (byteOfWord (if n < 32 then w.1 else w.2) (n / 8 % 4)).getLsbD (7 - n % 8) := rfl
  rw [hbytes]
  refine List.map_congr_left fun n hn => ?_
  have hn : n < 64 := List.mem_range.mp hn
  rw [getLsbD_byteOfWord _ _ (by omega), pairBit, byteOrder]
  by_cases h : n < 32
  · rw [if_pos h, if_pos (by omega)]
    congr 1; omega
  · rw [if_neg h, if_neg (by omega)]
    congr 1; omega

theorem fipsBit_outBits (w : Word × Word) {n : Nat} (h1 : 1 ≤ n) (h64 : n ≤ 64) :
    fipsBit (outBits w.1 w.2) n = pairBit w (byteOrder (n - 1)) := by
  rw [outBits_eq, fipsBit, List.getD_eq_getElem _ _ (by rw [List.length_map, List.length_range]; omega)]
  simp

/-- The FIPS key is the string of the packed key bytes (R131, R132). -/
theorem fipsKey_eq_outBits (s0 s1 : Word) (len : BitVec 8) :
    fipsKey s0 s1 len = outBits (packKey s0 s1 len).c (packKey s0 s1 len).d := by
  let kb := keyByte s0 s1 len
  calc fipsKey s0 s1 len
    _ = byteBits (kb 0) ++ byteBits (kb 1) ++ byteBits (kb 2) ++ byteBits (kb 3) ++
        (byteBits (kb 4) ++ byteBits (kb 5) ++ byteBits (kb 6) ++ byteBits (kb 7)) := rfl
    _ = outBits (packKey s0 s1 len).c (packKey s0 s1 len).d := by
      simp [outBits, packKey, kb, List.range_succ, byteOfWord_wordOfBytes_0, byteOfWord_wordOfBytes_1,
        byteOfWord_wordOfBytes_2, byteOfWord_wordOfBytes_3]

/-! ### The initial key permutation (O31) -/

/-- The exchanges of the initial key permutation, up to its final shuffle of bytes (R131). -/
def keyNetwork (w : Word × Word) : Word × Word :=
  exchangeBack 1 0x55555555 <| exchange 8 0x00FF00FF <| exchangeBack 1 0x55555555 <| halfPermuteBoth <|
    exchangeBack 4 0x0F0F0F0F w

/-- The final shuffle: c loses its top four bits to d, whose low three bytes are reversed. -/
def keyShuffle (w : Word × Word) : KeyHalves :=
  ⟨w.1 &&& 0x0FFFFFFF,
   ((w.2 &&& 0x000000FF) <<< 16) ||| (w.2 &&& 0x0000FF00) ||| ((w.2 &&& 0x00FF0000) >>> 16) ||| ((w.1 &&& 0xF0000000) >>> 4)⟩

theorem permuteKey_eq (h : KeyHalves) : permuteKey h = keyShuffle (keyNetwork (h.c, h.d)) := rfl

theorem getLsbD_keyShuffle_c (w : Word × Word) {n : Nat} (hn : n < 32) :
    (keyShuffle w).c.getLsbD n = (decide (n < 28) && pairBit w n) := by
  have hmask : ∀ n : Fin 32, (0x0FFFFFFF : Word).getLsbD n.val = decide (n.val < 28) := by decide
  rw [keyShuffle, BitVec.getLsbD_and, hmask ⟨n, hn⟩, pairBit, if_pos hn, Bool.and_comm]

/-- Where the final shuffle takes the bits of d from. -/
def shuffleSource (n : Nat) : Nat := if n < 8 then n + 48 else if n < 16 then n + 32 else if n < 24 then n + 16 else n + 4

theorem getLsbD_keyShuffle_d (w : Word × Word) {n : Nat} (hn : n < 32) :
    (keyShuffle w).d.getLsbD n = (decide (n < 28) && pairBit w (shuffleSource n)) := by
  interval_cases n <;> simp [keyShuffle, pairBit, shuffleSource]

/-- Where the exchanges take their bits from. -/
def keyNetworkSource (n : Nat) : Nat :=
  exchangeBackSource 4 0x0F0F0F0F <| halfBothSource <| exchangeBackSource 1 0x55555555 <|
    exchangeSource 8 0x00FF00FF <| exchangeBackSource 1 0x55555555 n

theorem moves_keyNetwork : Moves keyNetwork keyNetworkSource := by
  intro w n
  rw [keyNetwork, moves_exchangeBack (by decide), moves_exchange (by decide), moves_exchangeBack (by decide),
    moves_halfPermuteBoth, moves_exchangeBack (by decide)]
  rfl

/-- A bit the exchanges bring from the packed key bytes is the FIPS key's bit whose place it comes from. -/
theorem pairBit_keyNetwork_packKey (s0 s1 : Word) (len : BitVec 8) {n m : Nat} (h1 : 1 ≤ m) (h64 : m ≤ 64)
    (hsource : keyNetworkSource n = byteOrder (m - 1)) :
    pairBit (keyNetwork ((packKey s0 s1 len).c, (packKey s0 s1 len).d)) n = fipsBit (fipsKey s0 s1 len) m := by
  rw [moves_keyNetwork, hsource, fipsKey_eq_outBits]
  exact (fipsBit_outBits (_, _) h1 h64).symm

/-- The two halves of PC1, bit by bit. -/
theorem take_fipsPc1 (bits : List Bool) :
    (fipsSelect fipsPc1 bits).take 28 = (List.range 28).map fun n => fipsBit bits (fipsPc1.getD n 0) := rfl

theorem drop_fipsPc1 (bits : List Bool) :
    (fipsSelect fipsPc1 bits).drop 28 = (List.range 28).map fun n => fipsBit bits (fipsPc1.getD (28 + n) 0) := rfl

theorem u28_of_bits {x : Word} (h : ∀ n, 28 ≤ n → n < 32 → x.getLsbD n = false) : x >>> 28 = 0 := by
  apply BitVec.eq_of_getLsbD_eq
  intro i _
  rw [BitVec.getLsbD_ushiftRight]
  by_cases hi : 28 + i < 32
  · rw [h _ (by omega) hi]
    simp
  · rw [BitVec.getLsbD_of_ge _ _ (by omega)]
    simp

theorem permuteKey_u28 (h : KeyHalves) : (permuteKey h).U28 := by
  rw [permuteKey_eq]
  refine ⟨u28_of_bits fun n hge hlt => ?_, u28_of_bits fun n hge hlt => ?_⟩
  · rw [getLsbD_keyShuffle_c _ hlt, decide_eq_false (by omega), Bool.false_and]
  · rw [getLsbD_keyShuffle_d _ hlt, decide_eq_false (by omega), Bool.false_and]

/-- The initial permutation leaves C and D of PC1 of the secret's key (R132). -/
theorem keyHalfBits_permuteKey (s0 s1 : Word) (len : BitVec 8) :
    keyHalfBits (permuteKey (packKey s0 s1 len)).c = (fipsSelect fipsPc1 (fipsKey s0 s1 len)).take 28 ∧
    keyHalfBits (permuteKey (packKey s0 s1 len)).d = (fipsSelect fipsPc1 (fipsKey s0 s1 len)).drop 28 := by
  have hpc1 : ∀ n : Fin 56, 1 ≤ fipsPc1.getD n.val 0 ∧ fipsPc1.getD n.val 0 ≤ 64 := by decide
  have hc : ∀ n : Fin 28, keyNetworkSource n.val = byteOrder (fipsPc1.getD n.val 0 - 1) := by decide +kernel
  have hd : ∀ n : Fin 28, keyNetworkSource (shuffleSource n.val) = byteOrder (fipsPc1.getD (28 + n.val) 0 - 1) := by
    decide +kernel
  rw [permuteKey_eq, take_fipsPc1, drop_fipsPc1]
  refine ⟨List.map_congr_left fun n hn => ?_, List.map_congr_left fun n hn => ?_⟩
  · have hn : n < 28 := List.mem_range.mp hn
    obtain ⟨h1, h64⟩ := hpc1 ⟨n, by omega⟩
    rw [getLsbD_keyShuffle_c _ (by omega), decide_eq_true hn, Bool.true_and]
    exact pairBit_keyNetwork_packKey s0 s1 len h1 h64 (hc ⟨n, hn⟩)
  · have hn : n < 28 := List.mem_range.mp hn
    obtain ⟨h1, h64⟩ := hpc1 ⟨28 + n, by omega⟩
    rw [getLsbD_keyShuffle_d _ (by omega), decide_eq_true hn, Bool.true_and]
    exact pairBit_keyNetwork_packKey s0 s1 len h1 h64 (hd ⟨n, hn⟩)

/-- Settles O31: each step moves bits, and the places they come from are PC1's. -/
theorem initialKeyPermutationIsPc1 : Obligations.InitialKeyPermutationIsPc1 := by
  unfold Obligations.InitialKeyPermutationIsPc1
  intro s0 s1 len
  obtain ⟨hc, hd⟩ := keyHalfBits_permuteKey s0 s1 len
  exact ⟨hc, hd, permuteKey_u28 _⟩

/-! ### O35 -/

theorem length_fipsRoundKeys (shifts : List Nat) (c d : List Bool) : (fipsRoundKeys shifts c d).length = shifts.length := by
  induction shifts generalizing c d with
  | nil => rfl
  | cons n ns ih => simp [fipsRoundKeys, ih]

/-- The FIPS subkey of round k, from 0, in its two words (R112). -/
def roundSubkey (ks : Vector Word 32) (k : Fin 16) : List Bool :=
  subkeyBits (ks[2 * k.val]'(by omega)) (ks[2 * k.val + 1]'(by omega))

/-- The subkeys of the schedule are the FIPS 46 schedule of the secret's key (R142). -/
theorem roundSubkeys_keySched (s0 s1 : Word) (len : BitVec 8) :
    (List.finRange 16).map (roundSubkey (keySched s0 s1 len)) = fipsKeySchedule (fipsKey s0 s1 len) := by
  have hshifts : fipsShifts = shifts2.toList.map flagShift := by decide
  obtain ⟨hc, hd⟩ := keyHalfBits_permuteKey s0 s1 len
  refine List.ext_getElem? fun i => ?_
  simp only [fipsKeySchedule]
  rw [hshifts, ← hc, ← hd]
  by_cases hi : i < 16
  · obtain ⟨heven, hodd⟩ := getElem_keySched_round s0 s1 len ⟨i, hi⟩
    rw [getElem?_fipsRoundKeys (flags := shifts2.toList) (permuteKey_u28 _) hi, ← subkeyBits_subkeyWords]
    simp [hi, roundSubkey, heven, hodd, roundKey]
  · rw [List.getElem?_eq_none (by simp; omega), List.getElem?_eq_none (by rw [length_fipsRoundKeys]; simp; omega)]

/-- Settles O35: round by round, both schedules rotate the same halves and select PC2 of them. -/
theorem scheduleIsTheFips46Schedule : Obligations.ScheduleIsTheFips46Schedule := by
  unfold Obligations.ScheduleIsTheFips46Schedule
  exact roundSubkeys_keySched

end Sys2Proof.Machine
end

section
/-! SUPPORT. The invariant of the engine (10_state.md R25, R33, R34, R49, 42_key_scheduler.md R137, 43_salt_mixer.md R151 to
R153): what each of its three parts speaks of, and that every step keeps each part. -/

namespace Sys2Proof.Machine

/-! ### The results -/

/-- The invariant's clauses on the registers only commits write. -/
structure State.ResultsInv (s : State) : Prop where
  mask0 : s.eswap0 = swapMask0 s.saltEff
  mask1 : s.eswap1 = swapMask1 s.saltEff
  effZero : effValid s.saltEff = false → s.saltEff = 0
  ksEven : ∀ k : Fin 16, s.ks[2 * k.val]'(by omega) &&& 0xC0C0C0C0 = 0
  ksOdd : ∀ k : Fin 16, s.ks[2 * k.val + 1]'(by omega) &&& 0x0C0C0C0C = 0
  lenShape : s.resultLen = 0 ∨ s.resultLen = 13
  emptyWords : s.resultLen = 0 → s.result0 = 0 ∧ s.result1 = 0 ∧ s.result2 = 0 ∧ s.result3 = 0
  emptyLen : s.empty = true → s.resultLen = 0
  alphabet : s.resultLen = 13 → ∀ k : Fin 13, 2 ≤ k.val → isAlphabet (s.resultChar k) = true

/-- These clauses speak of the results alone. -/
theorem State.ResultsInv.congr {s t : State} (h : s.ResultsInv) (hres : t.results = s.results) : t.ResultsInv := by
  obtain ⟨hmask0, hmask1, heff, heven, hodd, hlen, hwords, hempty, halpha⟩ := h
  simp only [State.results, Results.mk.injEq] at hres
  obtain ⟨h1, h2, h3, -, -, h4, h5, h6, h7, h8, h9, h10⟩ := hres
  constructor <;> simp only [State.resultChar, h1, h2, h3, h4, h5, h6, h7, h8, h9, h10] <;> assumption

/-- Reset leaves every result 0. -/
theorem resultsInv_reset : State.reset.ResultsInv where
  mask0 := rfl
  mask1 := rfl
  effZero _ := rfl
  ksEven k := by rw [State.reset, Vector.getElem_replicate]; rfl
  ksOdd k := by rw [State.reset, Vector.getElem_replicate]; rfl
  lenShape := .inl rfl
  emptyWords _ := ⟨rfl, rfl, rfl, rfl⟩
  emptyLen _ := rfl
  alphabet h := absurd h (by decide)

section
variable {s : State} (h : s.ResultsInv)
include h

theorem State.ResultsInv.withMasks (x : BitVec 18) :
    (s.withMasks (swapMask0 (effectiveSalt x)) (swapMask1 (effectiveSalt x)) (effectiveSalt x)).ResultsInv :=
  { h with
    mask0 := rfl
    mask1 := rfl
    effZero := fun hinvalid => effectiveSalt_of_empty (by_contra fun hsalt =>
      Bool.false_ne_true (hinvalid.symm.trans ((effValid_effectiveSalt x).mpr hsalt))) }

theorem State.ResultsInv.withKs {ks : Vector Word 32}
    (heven : ∀ k : Fin 16, ks[2 * k.val]'(by omega) &&& 0xC0C0C0C0 = 0)
    (hodd : ∀ k : Fin 16, ks[2 * k.val + 1]'(by omega) &&& 0x0C0C0C0C = 0) : (s.withKs ks).ResultsInv :=
  { h with ksEven := heven, ksOdd := hodd }

theorem State.ResultsInv.withKeySched (s0 s1 : Word) (len : BitVec 8) : (s.withKs (keySched s0 s1 len)).ResultsInv :=
  h.withKs (fun k => (scheduleLeavesUnusedBitsZero s0 s1 len k).1) fun k => (scheduleLeavesUnusedBitsZero s0 s1 len k).2

theorem State.ResultsInv.withOut (out0 out1 : Word) : (s.withOut out0 out1).ResultsInv := { h with }

theorem State.ResultsInv.withEncoding (eff : BitVec 17) (out0 out1 : Word) :
    (s.withResult (encodeResult eff out0 out1)).ResultsInv := by
  cases hvalid : effValid eff
  · rw [encodeResult_of_invalid hvalid]
    exact { h with
      lenShape := .inl rfl
      emptyWords := fun _ => ⟨rfl, rfl, rfl, rfl⟩
      emptyLen := fun _ => rfl
      alphabet := fun hlen => absurd hlen (by simp [emptyResult]) }
  · rw [encodeResult_of_valid hvalid]
    exact { h with
      lenShape := .inr rfl
      emptyWords := fun hlen => absurd hlen (by simp [charResult])
      emptyLen := fun hempty => absurd hempty (by simp [charResult])
      alphabet := fun _ k hk => isAlphabet_resultChar_of_charResult s eff _ hk }

/-- The commit of a command whose snapshot shows the schedule as it stands keeps the clauses on the results. -/
theorem State.ResultsInv.exec (hks : s.operands.ks = s.ks) {i : Instr} {t : State} (he : Machine.exec i s = .next t) :
    t.ResultsInv := by
  cases i
  case nop =>
    cases (exec_nop s).symm.trans he
    exact h.congr rfl
  case keysched =>
    cases (exec_keysched s).symm.trans he
    exact (h.withKeySched _ _ _).congr rfl
  case saltmix =>
    cases (exec_saltmix s).symm.trans he
    exact (h.withMasks _).congr rfl
  case encrypt =>
    cases (exec_encrypt s).symm.trans he
    exact (h.withOut _ _).congr rfl
  case encode =>
    cases (exec_encode s).symm.trans he
    exact (h.withEncoding _ _ _).congr rfl
  case hash =>
    by_cases hsalt : saltLen s.operands.salt = 0
    · cases (exec_hash_of_empty hsalt).symm.trans he
      rw [hks, ← effectiveSalt_of_empty hsalt]
      exact (((h.withMasks _).withKs h.ksEven h.ksOdd).withOut _ _ |>.withEncoding _ _ _).congr rfl
    · cases (exec_hash_of_salt hsalt).symm.trans he
      exact (((h.withMasks _).withKeySched _ _ _).withOut _ _ |>.withEncoding _ _ _).congr rfl
  case clear =>
    cases (exec_clear s).symm.trans he
    exact resultsInv_reset.congr (results_scrub s)

end

/-! ### The recorded error and the command in flight -/

/-- The invariant's clauses on the recorded error. -/
def State.ErrorInv (s : State) : Prop := (s.errCause = 0 ↔ s.err = false) ∧ (s.err = false → s.errWord = 0)

/-- These clauses speak of the error record alone. -/
theorem State.ErrorInv.congr {s t : State} (h : s.ErrorInv) (hrec : t.errorRecord = s.errorRecord) : t.ErrorInv := by
  obtain ⟨herr, hcause, hword⟩ := ErrorRecord.mk.inj hrec
  simp only [State.ErrorInv, herr, hcause, hword]
  exact h

/-- The invariant's clauses on a command in flight: DONE is clear, and the snapshot shows the registers only commits write. -/
def State.FlightInv (s : State) : Prop :=
  ∀ p, s.pending = some p → s.done = false ∧
    p.snap.saltEff = s.saltEff ∧ p.snap.eswap0 = s.eswap0 ∧ p.snap.eswap1 = s.eswap1 ∧ p.snap.out0 = s.out0 ∧
    p.snap.out1 = s.out1 ∧ p.snap.ks = s.ks

/-- These clauses speak of the command, DONE and the results alone. -/
theorem State.FlightInv.congr {s t : State} (h : s.FlightInv) (hpending : t.pending = s.pending)
    (hdone : s.done = false → t.done = false) (hres : t.results = s.results) : t.FlightInv := by
  intro p hp
  obtain ⟨hd, hsnap⟩ := h p (hpending.symm.trans hp)
  simp only [State.results, Results.mk.injEq] at hres
  obtain ⟨heff, he0, he1, ho0, ho1, -, -, -, -, -, hks, -⟩ := hres
  rw [heff, he0, he1, ho0, ho1, hks]
  exact ⟨hdone hd, hsnap⟩

theorem flightInv_of_idle {s : State} (h : s.pending = none) : s.FlightInv := by
  intro p hp
  cases h.symm.trans hp

/-- The invariant, by what its clauses speak of. -/
theorem inv_iff (s : State) : s.Inv ↔ s.ResultsInv ∧ s.ErrorInv ∧ s.FlightInv := by
  constructor
  · intro h
    exact ⟨{ h with }, ⟨h.causeIffErr, h.wordIfErr⟩, fun p hp => ⟨h.notDoneWhileBusy (by simp [hp]), h.snapResults p hp⟩⟩
  · rintro ⟨hres, ⟨hcause, hword⟩, hflight⟩
    exact { hres with
      causeIffErr := hcause
      wordIfErr := hword
      notDoneWhileBusy := fun hbusy => by
        obtain ⟨p, hp⟩ := Option.isSome_iff_exists.mp hbusy
        exact (hflight p hp).1
      snapResults := fun p hp => (hflight p hp).2 }

/-! ### Every step keeps the three parts -/

/-- Everything a step can do to the results: leave them, commit the command in flight, or reset. -/
theorem step_results {s t : State} (h : step s = .next t) :
    t.results = s.results ∨ (∃ p, s.pending = some p ∧ exec p.op (s.withInputs s.inputs.tail) = .next t) ∨
      t.results = State.reset.results := by
  rcases step_outcomes h with rfl | ⟨r, rest, -, rfl⟩ | ⟨r, v, rest, -, rfl⟩ | hcommit | ⟨rest, -, rfl⟩
  · exact .inl (by simp)
  · exact .inl (by simp)
  · exact .inl (by simp)
  · exact .inr (.inl hcommit)
  · exact .inr (.inr rfl)

theorem State.ResultsInv.step {s t : State} (h : s.ResultsInv) (hflight : s.FlightInv) (hstep : Machine.step s = .next t) :
    t.ResultsInv := by
  rcases step_results hstep with hres | ⟨p, hp, he⟩ | hres
  · exact h.congr hres
  · have hks : s.operands.ks = s.ks := by
      obtain ⟨-, -, -, -, -, -, hks⟩ := hflight p hp
      rw [operands_pending hp, hks]
    exact State.ResultsInv.exec (h.congr (results_withInputs s s.inputs.tail)) hks he
  · exact resultsInv_reset.congr hres

theorem State.ErrorInv.step {s t : State} (h : s.ErrorInv) (hstep : Machine.step s = .next t) : t.ErrorInv := by
  rcases step_errorRecord hstep with hrec | hrec | ⟨v, rest, reason, -, -, rfl⟩
  · exact h.congr hrec
  · obtain ⟨hcause, hword, herr⟩ := capture_of_errorRecord_clear hrec
    exact ⟨by simp [hcause, herr], fun _ => hword⟩
  · -- ERR is set now, so the code must not be 0: it is the reason's, or the one the earlier error left.
    refine ⟨?_, by simp⟩
    have hcode := code_ne_zero reason
    cases herr : s.err
    · simpa [herr] using hcode
    · simpa [herr] using h.1

/-- DONE rises in no host write. -/
theorem done_writeReg_of_not_done {s : State} (h : s.done = false) (r : Reg) (v : Word) : (s.writeReg r v).done = false := by
  cases r
  case cmd =>
    rcases writeCmd_cases s v with ⟨-, hw⟩ | ⟨-, -, hw⟩ | ⟨-, -, hw⟩ | ⟨i, -, -, hw⟩ <;> simp [State.writeReg, hw, h]
  case status => simp [State.writeReg, h]
  all_goals exact h

/-- A host write leaves a command in flight as it is, and puts in PENDING only a command with a snapshot of the results. -/
theorem State.FlightInv.writeReg {s : State} (h : s.FlightInv) (r : Reg) (v : Word) : (s.writeReg r v).FlightInv := by
  have hkept (hpending : (s.writeReg r v).pending = s.pending) : (s.writeReg r v).FlightInv :=
    h.congr hpending (done_writeReg_of_not_done · r v) (results_writeReg s r v)
  by_cases hr : r = .cmd
  · subst hr
    rcases writeCmd_rejected_or_accepted s v with ⟨reason, hrej⟩ | ⟨i, hacc⟩
    · exact hkept (by rw [State.writeReg, writeCmd_of_rejectedFor hrej, pending_commandError])
    · rw [State.writeReg, hacc]
      intro p hp
      cases hp
      exact ⟨rfl, rfl, rfl, rfl, rfl, rfl, rfl⟩
  · exact hkept (pending_writeReg hr s v)

theorem State.FlightInv.step {s t : State} (h : s.FlightInv) (hstep : Machine.step s = .next t) : t.FlightInv := by
  have hwork : (s.withInputs s.inputs.tail).workInFlight.FlightInv := h.congr (by simp) (by simp) (by simp)
  rcases step_outcomes hstep with rfl | ⟨r, rest, -, rfl⟩ | ⟨r, v, rest, -, rfl⟩ | ⟨p, hp, he⟩ | ⟨rest, -, rfl⟩
  · exact h
  · exact hwork
  · exact hwork.writeReg r v
  · obtain ⟨u, hu, hidle, -⟩ := exec_next p.op (s.withInputs s.inputs.tail)
    cases hu.symm.trans he
    exact flightInv_of_idle hidle
  · exact flightInv_of_idle rfl

/-! ### O50, O51 -/

/-- Settles O50: with no error, no command and every result 0, each clause holds by computation. -/
theorem resetMeetsTheInvariant : Obligations.ResetMeetsTheInvariant :=
  (inv_iff _).mpr ⟨resultsInv_reset, ⟨by decide, fun _ => rfl⟩, flightInv_of_idle rfl⟩

/-- Settles O51: a step keeps each of the three parts; the results need the command in flight, whose snapshot HASH of an
empty salt writes back. -/
theorem everyStepKeepsTheInvariant : Obligations.EveryStepKeepsTheInvariant := by
  unfold Obligations.EveryStepKeepsTheInvariant
  intro s t h hstep
  obtain ⟨hres, herr, hflight⟩ := (inv_iff s).mp h
  exact (inv_iff t).mpr ⟨hres.step hflight hstep, herr.step hstep, hflight.step hstep⟩

end Sys2Proof.Machine
end

section
/-! SUPPORT. The round function as a FIPS 46 round with the salted expansion, and ENCRYPT as 25-fold salted DES
(44_feistel.md sections 1 and 3, 40_tables.md section 6). -/

namespace Sys2Proof.Machine

/-! ### The substitution is the S-boxes and P -/

/-- The S-box outputs for two words that hold the eight inputs as R112 places them. -/
def sboxBits (u t : Word) (q : Fin 8) : List Bool :=
  let b := groupBit u t q
  fipsSBits (fipsSEntry q (b 0) (b 1) (b 2) (b 3) (b 4) (b 5))

/-- Bit n + 1 (mod 32) of an SPTRANS entry is P's bit n + 1, if that is one of its S-box's four (R111). -/
theorem getLsbD_lookup_sptrans : ∀ (q : Fin 8) (x : Sextet) (n : Fin 32),
    ((sptrans[q]).lookup x).getLsbD ((n.val + 1) % 32) =
      (decide ((fipsP.getD n.val 0 - 1) / 4 = q.val) &&
        (fipsSBits (fipsSEntry q (x.getLsbD 0) (x.getLsbD 1) (x.getLsbD 2) (x.getLsbD 3) (x.getLsbD 4)
          (x.getLsbD 5))).getD ((fipsP.getD n.val 0 - 1) % 4) false) := by
  decide +kernel

theorem getLsbD_sextetAt (w : Word) (lo : Nat) {j : Nat} (hj : j < 6) : (sextetAt w lo).getLsbD j = w.getLsbD (lo + j) := by
  rw [sextetAt, BitVec.getLsbD_extractLsb', decide_eq_true hj, Bool.true_and]

/-- The lookup of S-box q+1, on the word that holds its input (R162). -/
theorem getLsbD_lookup_sptrans_group (u t : Word) (q : Fin 8) (n : Fin 32) :
    ((sptrans[q]).lookup (sextetAt (if q.val % 2 = 0 then u else t) (8 * (q.val / 2)))).getLsbD ((n.val + 1) % 32) =
      (decide ((fipsP.getD n.val 0 - 1) / 4 = q.val) && (sboxBits u t q).getD ((fipsP.getD n.val 0 - 1) % 4) false) := by
  rw [getLsbD_lookup_sptrans]
  simp only [getLsbD_sextetAt _ _ (by decide : 0 < 6), getLsbD_sextetAt _ _ (by decide : 1 < 6),
    getLsbD_sextetAt _ _ (by decide : 2 < 6), getLsbD_sextetAt _ _ (by decide : 3 < 6),
    getLsbD_sextetAt _ _ (by decide : 4 < 6), getLsbD_sextetAt _ _ (by decide : 5 < 6)]
  rfl

/-- The S-boxes' outputs in order, four bits each. -/
theorem getD_flatMap_sboxBits (u t : Word) {m : Nat} (hm : m < 32) :
    ((List.finRange 8).flatMap (sboxBits u t)).getD m false = (sboxBits u t ⟨m / 4, by omega⟩).getD (m % 4) false := by
  interval_cases m <;> rfl

/-- Of eight OR-ed bits, in the order of R162, the one selected. -/
theorem or_selected (v : Fin 8 → Bool) (d : Fin 8) :
    ((((((((decide (d.val = 0) && v 0) || (decide (d.val = 2) && v 2)) || (decide (d.val = 4) && v 4)) ||
      (decide (d.val = 6) && v 6)) || (decide (d.val = 1) && v 1)) || (decide (d.val = 3) && v 3)) ||
      (decide (d.val = 5) && v 5)) || (decide (d.val = 7) && v 7)) = v d := by
  match d with
  | 0 | 1 | 2 | 3 | 4 | 5 | 6 | 7 => simp

/-- The eight OR-ed lookups are P of the S-boxes' outputs (R111, R162). -/
theorem feistelBits_substitute (u t : Word) :
    feistelBits (substitute u t) = fipsSelect fipsP ((List.finRange 8).flatMap (sboxBits u t)) := by
  have hp : ∀ n : Fin 32, fipsP.getD n.val 0 - 1 < 32 := by decide
  have hselect (bits : List Bool) : fipsSelect fipsP bits = (List.range 32).map fun n => fipsBit bits (fipsP.getD n 0) := rfl
  rw [hselect, feistelBits]
  refine List.map_congr_left fun n hn => ?_
  have hn : n < 32 := List.mem_range.mp hn
  have h (q : Fin 8) := getLsbD_lookup_sptrans_group u t q ⟨n, hn⟩
  rw [fipsBit, getD_flatMap_sboxBits u t (hp ⟨n, hn⟩)]
  simp only [substitute, BitVec.getLsbD_or]
  exact (congrArg₂ or (congrArg₂ or (congrArg₂ or (congrArg₂ or (congrArg₂ or (congrArg₂ or (congrArg₂ or (h 0) (h 2))
    (h 4)) (h 6)) (h 1)) (h 3)) (h 5)) (h 7)).trans
    (or_selected (fun q => (sboxBits u t q).getD ((fipsP.getD n 0 - 1) % 4) false) ⟨(fipsP.getD n 0 - 1) / 4, _⟩)

/-! ### The masked expansion is the salted E -/

/-- FIPS bit m of a Feistel half (R112). -/
theorem fipsBit_feistelBits (w : Word) {m : Nat} (h1 : 1 ≤ m) (h32 : m ≤ 32) :
    fipsBit (feistelBits w) m = w.getLsbD (m % 32) := by
  have hindex : m - 1 + 1 = m := by omega
  rw [fipsBit, feistelBits, List.getD_eq_getElem _ _ (by simp; omega)]
  simp [hindex]

/-- E's bit j of the group of S-box q+1 is bit 4q + j of the half, modulo 32. -/
theorem getD_fipsE (r : Word) {n : Nat} (hn : n < 48) :
    (fipsSelect fipsE (feistelBits r)).getD n false = r.getLsbD ((4 * (n / 6) + n % 6) % 32) := by
  have htable : ∀ n : Fin 48, 1 ≤ fipsE.getD n.val 0 ∧ fipsE.getD n.val 0 ≤ 32 ∧
      fipsE.getD n.val 0 % 32 = (4 * (n.val / 6) + n.val % 6) % 32 := by decide
  have hselect : fipsSelect fipsE (feistelBits r) =
      (List.range 48).map fun n => fipsBit (feistelBits r) (fipsE.getD n 0) := rfl
  obtain ⟨h1, h32, hmod⟩ := htable ⟨n, hn⟩
  rw [hselect, List.getD_eq_getElem _ _ (by simpa using hn), List.getElem_map, List.getElem_range,
    fipsBit_feistelBits r h1 h32, hmod]

/-- The masked expansion in one index: where the mask selects the pair of bit i, it takes the pair's other bit (R154). -/
theorem getLsbD_expandHalf_swap {mask : Word} (hmask : mask >>> 16 = 0) (r subkey : Word) {i : Nat} (hi : i < 32) :
    (expandHalf r mask subkey).getLsbD i =
      ((if mask.getLsbD (i % 16) then r.getLsbD ((i + 16) % 32) else r.getLsbD i) ^^ subkey.getLsbD i) := by
  by_cases h : i < 16
  · have hmod : i % 16 = i ∧ (i + 16) % 32 = i + 16 := by omega
    rw [(masksSwapExpansionBits r mask subkey hmask i h).1, hmod.1, hmod.2]
  · have hmod : i % 16 = i - 16 ∧ (i + 16) % 32 = i - 16 := by omega
    have hback : i - 16 + 16 = i := by omega
    have hswap := (masksSwapExpansionBits r mask subkey hmask (i - 16) (by omega)).2
    rw [hback] at hswap
    rw [hswap, hmod.1, hmod.2]

/-- The two masks of two salt values (R151). -/
theorem mask_ushiftRight : ∀ v : Sextet, (v.setWidth 32 : Word) >>> 16 = 0 ∧ (v.setWidth 32 <<< 4 : Word) >>> 16 = 0 := by
  decide +kernel

/-- The salt bit of an expansion bit is the mask bit of the pair it is expanded from (R154). -/
theorem getD_saltBits (v0 v1 : Sextet) (q : Fin 8) {j : Nat} (hj : j < 6) :
    (saltBits v0 v1).getD ((6 * q.val + j) % 24) false =
      (if q.val % 2 = 0 then (v0.setWidth 32 : Word) else v1.setWidth 32 <<< 4).getLsbD ((4 * q.val + j) % 32 % 16) := by
  interval_cases j <;> match q with
    | 0 | 1 | 2 | 3 | 4 | 5 | 6 | 7 => simp [saltBits, List.range_succ]

/-- The salted expansion, bit j of the group of S-box q+1: where the mask selects the pair of bit 4q + j, the pair's other bit
(R154). -/
theorem getD_saltedExpansion (v0 v1 : Sextet) (r : Word) (q : Fin 8) {j : Nat} (hj : j < 6) :
    (saltedExpansion (saltBits v0 v1) (feistelBits r)).getD (6 * q.val + j) false =
      (if (if q.val % 2 = 0 then (v0.setWidth 32 : Word) else v1.setWidth 32 <<< 4).getLsbD ((4 * q.val + j) % 32 % 16) then
        r.getLsbD (((4 * q.val + j) % 32 + 16) % 32) else r.getLsbD ((4 * q.val + j) % 32)) := by
  have hn : 6 * q.val + j < 48 := by omega
  have hdiv : (6 * q.val + j) / 6 = q.val ∧ (6 * q.val + j) % 6 = j := by omega
  have hother : (4 * ((6 * q.val + j + 24) % 48 / 6) + (6 * q.val + j + 24) % 48 % 6) % 32 =
      ((4 * q.val + j) % 32 + 16) % 32 := by omega
  rw [saltedExpansion, List.getD_eq_getElem _ _ (by simpa using hn), List.getElem_map, List.getElem_range,
    getD_saltBits v0 v1 q hj, getD_fipsE r hn, getD_fipsE r (Nat.mod_lt _ (by decide)), hdiv.1, hdiv.2, hother]

/-- A list of eight groups of six bits, by group and place. -/
theorem getD_flatMap_groups (f : Fin 8 → Nat → Bool) (q : Fin 8) {j : Nat} (hj : j < 6) :
    ((List.finRange 8).flatMap fun q => (List.range 6).map (f q)).getD (6 * q.val + j) false = f q j := by
  interval_cases j <;> match q with
    | 0 | 1 | 2 | 3 | 4 | 5 | 6 | 7 => rfl

theorem length_saltedExpansion (salt half : List Bool) : (saltedExpansion salt half).length = 48 := by
  simp [saltedExpansion]

theorem getD_zipWith_xor {a b : List Bool} (h : a.length = b.length) (n : Nat) :
    (List.zipWith xor a b).getD n false = (a.getD n false ^^ b.getD n false) := by
  by_cases hn : n < a.length
  · rw [List.getD_eq_getElem _ _ (by rw [List.length_zipWith]; omega), List.getD_eq_getElem _ _ hn,
      List.getD_eq_getElem _ _ (by omega), List.getElem_zipWith]
  · rw [List.getD_eq_default _ _ (by rw [List.length_zipWith]; omega), List.getD_eq_default _ _ (by omega),
      List.getD_eq_default _ _ (by omega)]
    rfl

section
variable (v0 v1 : Sextet) (k0 k1 r : Word)

/-- The word of the round function that holds the inputs of S1, S3, S5, S7 (R162). -/
def roundWord0 : Word := expandHalf r (v0.setWidth 32) k0

/-- The word that holds the inputs of S2, S4, S6, S8 (R162). -/
def roundWord1 : Word := rotr32 (expandHalf r (v1.setWidth 32 <<< 4) k1) 4

/-- Input bit j of S-box q+1 in the round function's words is that of the FIPS cipher function: the salted expansion with
the subkey. -/
theorem groupBit_roundWords (q : Fin 8) {j : Nat} (hj : j < 6) :
    groupBit (roundWord0 v0 k0 r) (roundWord1 v1 k1 r) q j =
      (List.zipWith xor (saltedExpansion (saltBits v0 v1) (feistelBits r)) (subkeyBits k0 k1)).getD (6 * q.val + j) false := by
  have hsubkey := getD_flatMap_groups (groupBit k0 (rotr32 k1 4)) q hj
  rw [← subkeyBits_eq] at hsubkey
  rw [getD_zipWith_xor (length_saltedExpansion _ _), getD_saltedExpansion v0 v1 r q hj, hsubkey]
  unfold groupBit roundWord0 roundWord1
  by_cases hq : q.val % 2 = 0
  · have hi : 8 * (q.val / 2) + j = (4 * q.val + j) % 32 := by omega
    rw [if_pos hq, if_pos hq, if_pos hq, hi,
      getLsbD_expandHalf_swap (mask_ushiftRight v0).1 r k0 (Nat.mod_lt _ (by decide))]
  · have hi : (8 * (q.val / 2) + j + 4) % 32 = (4 * q.val + j) % 32 := by omega
    rw [if_neg hq, if_neg hq, if_neg hq, getLsbD_rotr32_mod _ (by decide) (by omega),
      getLsbD_rotr32_mod _ (by decide) (by omega), hi,
      getLsbD_expandHalf_swap (mask_ushiftRight v1).2 r k1 (Nat.mod_lt _ (by decide))]

/-- The substitution of the expanded half is the FIPS cipher function with the salted expansion (R162, R172). -/
theorem feistelBits_substitute_roundWords :
    feistelBits (substitute (roundWord0 v0 k0 r) (roundWord1 v1 k1 r)) =
      fipsCipher (saltBits v0 v1) (feistelBits r) (subkeyBits k0 k1) := by
  have hbit (q : Fin 8) {j : Nat} (hj : j < 6) := groupBit_roundWords v0 v1 k0 k1 r q hj
  rw [feistelBits_substitute, fipsCipher]
  refine congrArg (fipsSelect fipsP) (List.flatMap_congr fun q _ => ?_)
  rw [sboxBits, hbit q (by decide), hbit q (by decide), hbit q (by decide), hbit q (by decide), hbit q (by decide),
    hbit q (by decide)]
  rfl

theorem feistelBits_xor (x y : Word) : feistelBits (x ^^^ y) = List.zipWith xor (feistelBits x) (feistelBits y) := by
  simp [feistelBits, List.zipWith_map]

/-- One round of the engine is one FIPS 46 round with the salted expansion. -/
theorem feistelBits_roundFnOn (l : Word) :
    feistelBits (roundFnOn (v0.setWidth 32) (v1.setWidth 32 <<< 4) k0 k1 l r) =
      List.zipWith xor (feistelBits l) (fipsCipher (saltBits v0 v1) (feistelBits r) (subkeyBits k0 k1)) := by
  rw [← feistelBits_substitute_roundWords, ← feistelBits_xor]
  rfl

end

/-! ### O38 -/

/-- Settles O38: the masked expansion is the salted E, the eight lookups are the S-boxes and P, and the subkey words hold the
subkey where the lookups read it. -/
theorem roundIsTheSaltedFips46Round : Obligations.RoundIsTheSaltedFips46Round := by
  unfold Obligations.RoundIsTheSaltedFips46Round
  exact fun v0 v1 k0 k1 l r => feistelBits_roundFnOn v0 v1 k0 k1 r l

/-! ### The rounds of an outer iteration -/

/-- A Feistel state as FIPS 46 writes it. -/
def halvesBits (h : Halves) : List Bool × List Bool := (feistelBits h.l, feistelBits h.r)

section
variable (v0 v1 : Sextet) (ks : Vector Word 32)

/-- The key of a cipher run whose masks are those of two salt values. -/
def saltedKey : CipherKey := ⟨ks, v0.setWidth 32, v1.setWidth 32 <<< 4⟩

/-- The two subkeys of round pair p. -/
def pairSubkeys (p : Fin 8) : List (List Bool) :=
  [roundSubkey ks ⟨2 * p.val, by omega⟩, roundSubkey ks ⟨2 * p.val + 1, by omega⟩]

/-- Round pairs are FIPS rounds, two and two: FIPS exchanges the halves after every round, so after two they stand as they
did (R166). -/
theorem fipsRounds_pairs (ps : List (Fin 8)) (h : Halves) :
    fipsRounds (saltBits v0 v1) (ps.flatMap (pairSubkeys ks)) (halvesBits h) =
      halvesBits (ps.foldl (roundPair (saltedKey v0 v1 ks)) h) := by
  induction ps generalizing h with
  | nil => rfl
  | cons p ps ih =>
    rw [List.foldl_cons, ← ih]
    simp only [List.flatMap_cons, pairSubkeys, List.cons_append, List.nil_append, fipsRounds, halvesBits, roundSubkey,
      ← feistelBits_roundFnOn]
    rfl

/-- The sixteen subkeys, two and two. -/
theorem roundSubkeys_eq_flatMap :
    (List.finRange 16).map (roundSubkey ks) = ([0, 1, 2, 3, 4, 5, 6, 7] : List (Fin 8)).flatMap (pairSubkeys ks) := rfl

end

/-! ### IP and FP -/

theorem fipsBit_fipsSelect (table : List Nat) (bits : List Bool) {n : Nat} (h1 : 1 ≤ n) (hn : n ≤ table.length) :
    fipsBit (fipsSelect table bits) n = fipsBit bits (table.getD (n - 1) 0) := by
  rw [fipsBit, fipsSelect, List.getD_eq_getElem _ _ (by rw [List.length_map]; omega), List.getElem_map,
    List.getD_eq_getElem _ _ (by omega)]

theorem length_fipsSelect (table : List Nat) (bits : List Bool) : (fipsSelect table bits).length = table.length :=
  List.length_map _

/-- A selection by one table of 64 bits and then by another that puts every bit back. -/
theorem fipsSelect_fipsSelect_eq_self {ta tb : List Nat} {bits : List Bool} (hta : ta.length = 64) (htb : tb.length = 64)
    (htables : ∀ i : Fin 64, 1 ≤ ta.getD i.val 0 ∧ ta.getD i.val 0 ≤ 64 ∧ tb.getD (ta.getD i.val 0 - 1) 0 = i.val + 1)
    (hbits : bits.length = 64) : fipsSelect ta (fipsSelect tb bits) = bits := by
  refine List.ext_getElem (by rw [length_fipsSelect, hta, hbits]) fun i hi hi' => ?_
  obtain ⟨h1, hle, hback⟩ := htables ⟨i, by omega⟩
  have houter : (fipsSelect ta (fipsSelect tb bits))[i] = fipsBit (fipsSelect tb bits) (ta.getD i 0) := by
    rw [List.getD_eq_getElem ta 0 (by omega)]
    exact List.getElem_map _
  rw [houter, fipsBit_fipsSelect tb bits h1 (by omega), hback, fipsBit, Nat.add_sub_cancel, List.getD_eq_getElem _ _ hi']

theorem fipsIp_fipsFp {bits : List Bool} : bits.length = 64 → fipsSelect fipsIp (fipsSelect fipsFp bits) = bits :=
  fipsSelect_fipsSelect_eq_self rfl rfl (by decide)

theorem fipsFp_fipsIp {bits : List Bool} : bits.length = 64 → fipsSelect fipsFp (fipsSelect fipsIp bits) = bits :=
  fipsSelect_fipsSelect_eq_self rfl rfl (by decide)

theorem length_feistelBits (w : Word) : (feistelBits w).length = 32 := rfl

/-- A Feistel state as one string of 64 bits. -/
def blockBits (h : Halves) : List Bool := feistelBits h.l ++ feistelBits h.r

theorem length_blockBits (h : Halves) : (blockBits h).length = 64 := rfl

/-! ### ENCRYPT (O39) -/

section
variable (v0 v1 : Sextet) (ks : Vector Word 32)

/-- An encryption of a block that IP takes to two halves, by what the rounds make of them. -/
theorem fipsEncrypt_eq {salt : List Bool} {subkeys : List (List Bool)} {block : List Bool} {h h' : Halves}
    (hblock : fipsSelect fipsIp block = blockBits h) (hrounds : fipsRounds salt subkeys (halvesBits h) = halvesBits h') :
    fipsEncrypt salt subkeys block = fipsSelect fipsFp (blockBits (swapHalves h')) := by
  have htake : (blockBits h).take 32 = feistelBits h.l := List.take_left' (length_feistelBits _)
  have hdrop : (blockBits h).drop 32 = feistelBits h.r := List.drop_left' (length_feistelBits _)
  unfold halvesBits at hrounds
  simp only [fipsEncrypt, hblock, htake, hdrop, hrounds]
  rfl

/-- One outer iteration is one salted DES encryption, seen through IP (R166, R172). -/
theorem fipsSelect_ip_fipsEncrypt {block : List Bool} {h : Halves} (hblock : fipsSelect fipsIp block = blockBits h) :
    fipsSelect fipsIp (fipsEncrypt (saltBits v0 v1) ((List.finRange 16).map (roundSubkey ks)) block) =
      blockBits (outerIteration (saltedKey v0 v1 ks) h) := by
  have hrounds := fipsRounds_pairs v0 v1 ks [0, 1, 2, 3, 4, 5, 6, 7] h
  rw [← roundSubkeys_eq_flatMap] at hrounds
  rw [fipsEncrypt_eq hblock hrounds, outerIteration]
  exact fipsIp_fipsFp (length_blockBits _)

theorem length_fipsEncrypt (salt : List Bool) (subkeys : List (List Bool)) (block : List Bool) :
    (fipsEncrypt salt subkeys block).length = 64 := by
  rw [fipsEncrypt]
  exact length_fipsSelect fipsFp _

theorem length_fipsIterate (salt : List Bool) (subkeys : List (List Bool)) (n : Nat) {block : List Bool}
    (h : block.length = 64) : (fipsIterate salt subkeys n block).length = 64 := by
  induction n generalizing block with
  | zero => exact h
  | succ n ih =>
    rw [fipsIterate]
    exact ih (length_fipsEncrypt salt subkeys block)

/-- n outer iterations are n encryptions, seen through IP. -/
theorem fipsSelect_ip_fipsIterate (n : Nat) {block : List Bool} {h : Halves} (hblock : fipsSelect fipsIp block = blockBits h) :
    fipsSelect fipsIp (fipsIterate (saltBits v0 v1) ((List.finRange 16).map (roundSubkey ks)) n block) =
      blockBits (outerIterations (saltedKey v0 v1 ks) n h) := by
  induction n generalizing block h with
  | zero => exact hblock
  | succ n ih => exact ih (fipsSelect_ip_fipsEncrypt v0 v1 ks hblock)

end

/-- The final exchange and the output permutation on a pair of words (R167, R168). -/
def outputNetwork (w : Word × Word) : Word × Word :=
  exchangeBack 4 0x0F0F0F0F <| exchange 16 0x0000FFFF <| exchangeBack 2 0x33333333 <| exchange 8 0x00FF00FF <|
    exchangeBack 1 0x55555555 (rotr32 w.2 1, rotr32 w.1 1)

theorem outputPermutation_eq (h : Halves) :
    ((outputPermutation (finalExchange h)).l, (outputPermutation (finalExchange h)).r) = outputNetwork (h.l, h.r) := rfl

/-- Where the final exchange takes its bits from. -/
def finalSource (n : Nat) : Nat :=
  if n < 32 then 32 + (n + 1) % 32 else if n < 64 then (n - 32 + 1) % 32 else n

theorem moves_finalExchange : Moves (fun w => (rotr32 w.2 1, rotr32 w.1 1)) finalSource := by
  intro w n
  unfold pairBit finalSource
  by_cases hn : n < 32
  · rw [if_pos hn, if_pos hn, if_neg (by omega), getLsbD_rotr32_mod _ (by decide) hn, Nat.add_sub_cancel_left]
  · by_cases hn' : n < 64
    · rw [if_neg hn, if_neg hn, if_pos hn', if_pos (Nat.mod_lt _ (by decide)),
        getLsbD_rotr32_mod _ (by decide) (by omega)]
    · rw [if_neg hn, if_neg hn, if_neg hn', if_neg hn, BitVec.getLsbD_of_ge _ _ (by omega),
        BitVec.getLsbD_of_ge _ _ (by omega)]

/-- Where the output network takes its bits from. -/
def outputNetworkSource (n : Nat) : Nat :=
  finalSource <| exchangeBackSource 1 0x55555555 <| exchangeSource 8 0x00FF00FF <| exchangeBackSource 2 0x33333333 <|
    exchangeSource 16 0x0000FFFF <| exchangeBackSource 4 0x0F0F0F0F n

theorem moves_outputNetwork : Moves outputNetwork outputNetworkSource := by
  intro w n
  rw [outputNetwork, moves_exchangeBack (by decide), moves_exchange (by decide), moves_exchangeBack (by decide),
    moves_exchange (by decide), moves_exchangeBack (by decide)]
  exact moves_finalExchange w _

/-- FIPS bit m of the two halves as a pair of words, from 1 (R112). -/
theorem fipsBit_blockBits (h : Halves) {m : Nat} (h1 : 1 ≤ m) (h64 : m ≤ 64) :
    fipsBit (blockBits h) m = pairBit (h.l, h.r) (if m ≤ 32 then m % 32 else 32 + m % 32) := by
  by_cases hm : m ≤ 32
  · have hlt : m % 32 < 32 := Nat.mod_lt _ (by decide)
    rw [if_pos hm, pairBit, if_pos hlt, ← fipsBit_feistelBits h.l h1 hm, fipsBit, fipsBit, blockBits,
      List.getD_append _ _ _ _ (by rw [length_feistelBits]; omega)]
  · have hmod : (m - 32) % 32 = m % 32 := by omega
    have hindex : m - 1 - 32 = m - 32 - 1 := by omega
    rw [if_neg hm, pairBit, if_neg (by omega), Nat.add_sub_cancel_left, ← hmod,
      ← fipsBit_feistelBits h.r (by omega) (by omega), fipsBit, fipsBit, blockBits,
      List.getD_append_right _ _ _ _ (by rw [length_feistelBits]; omega), length_feistelBits, hindex]

/-- The output bytes are FP of the halves after the last outer iteration (R167 to R169, R172). -/
theorem outBits_outputPermutation (h : Halves) :
    outBits (outputPermutation (finalExchange h)).l (outputPermutation (finalExchange h)).r =
      fipsSelect fipsFp (blockBits h) := by
  have hfp : ∀ n : Fin 64, 1 ≤ fipsFp.getD n.val 0 ∧ fipsFp.getD n.val 0 ≤ 64 ∧
      outputNetworkSource (byteOrder n.val) =
        if fipsFp.getD n.val 0 ≤ 32 then fipsFp.getD n.val 0 % 32 else 32 + fipsFp.getD n.val 0 % 32 := by
    decide +kernel
  have hselect : fipsSelect fipsFp (blockBits h) =
      (List.range 64).map fun n => fipsBit (blockBits h) (fipsFp.getD n 0) := rfl
  have hnetwork := outBits_eq (outputNetwork (h.l, h.r))
  rw [← outputPermutation_eq] at hnetwork
  rw [hnetwork, hselect]
  refine List.map_congr_left fun n hn => ?_
  obtain ⟨h1, h64, hsource⟩ := hfp ⟨n, List.mem_range.mp hn⟩
  rw [outputPermutation_eq, moves_outputNetwork, hsource, fipsBit_blockBits h h1 h64]

/-- Settles O39: an outer iteration is one salted DES encryption seen through IP, so 25 of them are 25, and the output
permutation undoes IP. -/
theorem encryptIs25FoldSaltedDes : Obligations.EncryptIs25FoldSaltedDes := by
  unfold Obligations.EncryptIs25FoldSaltedDes
  intro s0 s1 len v0 v1 key subkeys zero
  have hsubkeys : subkeys = (List.finRange 16).map (roundSubkey (keySched s0 s1 len)) :=
    (roundSubkeys_keySched s0 s1 len).symm
  have hzero : fipsSelect fipsIp zero = blockBits ⟨0, 0⟩ := by decide +kernel
  have hiterate (j : Nat) : blockBits (outerIterations key j ⟨0, 0⟩) =
      fipsSelect fipsIp (fipsIterate (saltBits v0 v1) subkeys j zero) := by
    rw [hsubkeys]
    exact (fipsSelect_ip_fipsIterate v0 v1 (keySched s0 s1 len) j hzero).symm
  refine ⟨hiterate, ?_⟩
  rw [encryptBlock, outBits_outputPermutation, hiterate]
  exact fipsFp_fipsIp (length_fipsIterate _ _ 25 (List.length_replicate ..))

end Sys2Proof.Machine
end

section
/-! SUPPORT. The datapath step sequences (42_key_scheduler.md R141, 44_feistel.md R173, 45_encoder.md R186, 46_control.md R195):
what each of KEYSCHED's, ENCRYPT's and ENCODE's leaves in the working registers, from any contents, and their lengths. -/

namespace Sys2Proof.Machine

theorem runAll_append (snap : Snapshot) (a b : List DatapathStep) (w : Datapath) :
    DatapathStep.runAll snap (a ++ b) w = DatapathStep.runAll snap b (DatapathStep.runAll snap a w) := List.foldl_append

theorem runAll_cons (snap : Snapshot) (a : DatapathStep) (l : List DatapathStep) (w : Datapath) :
    DatapathStep.runAll snap (a :: l) w = DatapathStep.runAll snap l (DatapathStep.run snap w a) := rfl

/-! ### KEYSCHED -/

/-- The first m key rounds: they change the key halves and the schedule alone, and leave the halves and the words of m
rounds. -/
structure AfterKeyRounds (m : Nat) (w w' : Datapath) : Prop where
  frame : w' = { w with key := w'.key, ks := w'.ks }
  key : w'.key = rotatedKey (shifts2.toList.take m) w.key
  words : ∀ k : Fin 16, k.val < m →
    w'.ks[2 * k.val]'(by omega) = (subkeyWords (rotatedKey (shifts2.toList.take (k.val + 1)) w.key)).1 ∧
    w'.ks[2 * k.val + 1]'(by omega) = (subkeyWords (rotatedKey (shifts2.toList.take (k.val + 1)) w.key)).2

theorem AfterKeyRounds.succ {m : Fin 16} {w w' : Datapath} (h : AfterKeyRounds m w w') (snap : Snapshot) :
    AfterKeyRounds (m + 1) w (DatapathStep.run snap w' (.keyRound m)) := by
  obtain ⟨hframe, hkey, hwords⟩ := h
  have hkey' : rotateKey shifts2[m] w'.key = rotatedKey (shifts2.toList.take (m.val + 1)) w.key := by
    rw [hkey, rotatedKey, rotatedKey, List.take_succ_eq_append_getElem (by simp), List.foldl_append]
    rfl
  refine ⟨?_, hkey', fun k hk => ?_⟩
  · rw [hframe]
    rfl
  · simp only [DatapathStep.run, Vector.getElem_set]
    by_cases hkm : k.val = m.val
    · obtain rfl : k = m := Fin.ext hkm
      rw [← hkey']
      simp [subkeyWords]
    · have hne : 2 * m.val ≠ 2 * k.val ∧ 2 * m.val + 1 ≠ 2 * k.val ∧ 2 * m.val ≠ 2 * k.val + 1 ∧
          2 * m.val + 1 ≠ 2 * k.val + 1 := by omega
      simp only [hne, if_false]
      exact hwords k (by omega)

theorem afterKeyRounds (snap : Snapshot) (w : Datapath) {m : Nat} (hm : m ≤ 16) :
    AfterKeyRounds m w (DatapathStep.runAll snap (((List.finRange 16).take m).map .keyRound) w) := by
  induction m with
  | zero => exact ⟨rfl, rfl, fun k hk => absurd hk (Nat.not_lt_zero _)⟩
  | succ m ih =>
    rw [List.take_succ_eq_append_getElem (by simp; omega), List.map_append, runAll_append, List.getElem_finRange]
    exact (ih (by omega)).succ (m := ⟨m, by omega⟩) snap

/-- A schedule with the words of all sixteen rounds of a secret is its schedule. -/
theorem eq_keySched_of_words {ks : Vector Word 32} {s0 s1 : Word} {len : BitVec 8}
    (h : ∀ k : Fin 16, ks[2 * k.val]'(by omega) = (subkeyWords (roundKey s0 s1 len k)).1 ∧
      ks[2 * k.val + 1]'(by omega) = (subkeyWords (roundKey s0 s1 len k)).2) : ks = keySched s0 s1 len := by
  ext1 i hi
  obtain ⟨k, rfl | rfl⟩ := Nat.even_or_odd' i
  · exact (h ⟨k, by omega⟩).1.trans (getElem_keySched_round s0 s1 len ⟨k, by omega⟩).1.symm
  · exact (h ⟨k, by omega⟩).2.trans (getElem_keySched_round s0 s1 len ⟨k, by omega⟩).2.symm

/-- KEYSCHED's steps leave the schedule of the snapshot's secret, and change the key halves beside it alone (R141). -/
theorem runAll_keyschedSteps (snap : Snapshot) (w : Datapath) :
    ∃ key, DatapathStep.runAll snap keyschedSteps w =
      { w with key := key, ks := keySched snap.secret0 snap.secret1 snap.secretLen } := by
  let w₀ := DatapathStep.run snap w .pack
  have hsteps : DatapathStep.runAll snap keyschedSteps w =
      DatapathStep.runAll snap (((List.finRange 16).take 16).map .keyRound) w₀ := rfl
  obtain ⟨hframe, -, hwords⟩ := afterKeyRounds snap w₀ (m := 16) (by decide)
  rw [hsteps, hframe, eq_keySched_of_words fun k => hwords k k.isLt]
  exact ⟨_, rfl⟩

/-! ### ENCRYPT -/

/-- What the round function reads of the working registers (R160). -/
def Datapath.cipherKey (w : Datapath) : CipherKey := ⟨w.ks, w.eswap0, w.eswap1⟩

theorem runAll_roundPairs (snap : Snapshot) (ps : List (Fin 8)) (w : Datapath) :
    DatapathStep.runAll snap (ps.flatMap fun p => [.round p 0, .round p 1]) w =
      { w with halves := ps.foldl (roundPair w.cipherKey) w.halves } := by
  induction ps generalizing w with
  | nil => rfl
  | cons p ps ih =>
    rw [List.flatMap_cons, runAll_append, ih, List.foldl_cons]
    rfl

theorem runAll_iterationSteps (snap : Snapshot) (w : Datapath) :
    DatapathStep.runAll snap iterationSteps w = { w with halves := outerIteration w.cipherKey w.halves } := by
  rw [iterationSteps, runAll_append, runAll_roundPairs]
  rfl

theorem runAll_iterations (snap : Snapshot) (n : Nat) (w : Datapath) :
    DatapathStep.runAll snap (List.replicate n iterationSteps).flatten w =
      { w with halves := outerIterations w.cipherKey n w.halves } := by
  induction n generalizing w with
  | zero => rfl
  | succ n ih =>
    rw [List.replicate_succ, List.flatten_cons, runAll_append, runAll_iterationSteps, ih]
    rfl

/-- Calls of the output permutation leave their result in the halves and in OUT' (R168). -/
theorem runAll_outputExchanges (snap : Snapshot) (n : Fin 5) (ns : List (Fin 5)) (w : Datapath) :
    DatapathStep.runAll snap ((n :: ns).map .outputExchange) w =
      { w with halves := (n :: ns).foldl outputStep w.halves, out := (n :: ns).foldl outputStep w.halves } := by
  induction ns generalizing n w with
  | nil => rfl
  | cons m ns ih =>
    rw [List.map_cons, runAll_cons, ih m]
    rfl

/-- ENCRYPT's steps, from the zero block, leave the ciphertext in OUT', and change the cipher halves beside it alone
(R173). -/
theorem runAll_encryptSteps (snap : Snapshot) {w : Datapath} (hzero : w.halves = ⟨0, 0⟩) :
    DatapathStep.runAll snap encryptSteps w =
      { w with halves := encryptBlock w.cipherKey, out := encryptBlock w.cipherKey } := by
  have hcalls : List.finRange 5 = [0, 1, 2, 3, 4] := rfl
  rw [encryptSteps, runAll_append, runAll_iterations, hzero, runAll_cons, hcalls, runAll_outputExchanges, encryptBlock,
    outputPermutation]
  rfl

/-! ### ENCODE -/

/-- Group steps set the group values they name, and nothing else. -/
theorem runAll_groups (snap : Snapshot) (gs : List (Fin 11)) (w : Datapath) :
    ∃ gv, DatapathStep.runAll snap (gs.map .group) w = { w with gv := gv } ∧
      ∀ g : Fin 11, gv[g] = if g ∈ gs then groupValue w.ob g else w.gv[g] := by
  induction gs generalizing w with
  | nil => exact ⟨w.gv, rfl, fun g => by simp⟩
  | cons g₀ gs ih =>
    obtain ⟨gv, hrun, hgv⟩ := ih (DatapathStep.run snap w (.group g₀))
    refine ⟨gv, (runAll_cons ..).trans hrun, fun g => ?_⟩
    rw [hgv g]
    by_cases hmem : g ∈ gs
    · simp [hmem, DatapathStep.run]
    · by_cases hg : g = g₀
      · subst hg
        simp [hmem, DatapathStep.run]
      · have hne : g₀.val ≠ g.val := fun h => hg (Fin.ext h.symm)
        simp [hmem, hg, hne, DatapathStep.run]

/-- Group values that are those of the bytes of OUT' make the encoding of OUT'. -/
theorem encoded_eq {w : Datapath} (hgv : ∀ g : Fin 11, w.gv[g] = groupValue (outBytes w.out.l w.out.r) g) :
    w.encoded = encodeResult w.saltEff w.out.l w.out.r := by
  simp only [Datapath.encoded, hgv]
  rfl

/-- ENCODE's steps leave the encoding of SALT_EFF' and OUT', and change neither these nor the other results (R186). -/
theorem runAll_encodeSteps (snap : Snapshot) (w : Datapath) :
    ∃ ob gv, DatapathStep.runAll snap encodeSteps w = { w with ob := ob, gv := gv } ∧
      ({ w with ob := ob, gv := gv } : Datapath).encoded = encodeResult w.saltEff w.out.l w.out.r := by
  obtain ⟨gv, hrun, hgv⟩ := runAll_groups snap (List.finRange 11) (DatapathStep.run snap w .serialise)
  refine ⟨_, gv, (runAll_cons ..).trans hrun, encoded_eq fun g => ?_⟩
  rw [hgv g, if_pos (List.mem_finRange g)]
  rfl

/-! ### O54 -/

/-- HASH publishes what its steps leave in the working registers. -/
theorem publish_hash {w : Datapath} {eff : BitVec 17} {ks : Vector Word 32} {out : Halves} (s : State)
    (heff : w.saltEff = eff) (h0 : w.eswap0 = swapMask0 eff) (h1 : w.eswap1 = swapMask1 eff) (hks : w.ks = ks)
    (hout : w.out = out) (henc : w.encoded = encodeResult eff out.l out.r) : w.publish .hash s = s.withHash eff ks out := by
  simp only [Datapath.publish, State.withHash, heff, h0, h1, hks, hout, henc]

/-- The steps of HASH with a salt: SALTMIX's, KEYSCHED's, ENCRYPT's and ENCODE's, each on what the one before left (R195). -/
theorem publish_hashSteps_of_salt {snap : Snapshot} (hsalt : saltLen snap.salt ≠ 0) {w : Datapath}
    (hzero : w.halves = ⟨0, 0⟩) (s : State) :
    (DatapathStep.runAll snap (commandSteps .hash snap) w).publish .hash s =
      s.withHash (effectiveSalt snap.salt) (keySched snap.secret0 snap.secret1 snap.secretLen)
        (hashOut (keySched snap.secret0 snap.secret1 snap.secretLen) (effectiveSalt snap.salt)) := by
  let w₁ := DatapathStep.run snap w .mixSalt
  obtain ⟨key, hkeysched⟩ := runAll_keyschedSteps snap w₁
  let w₂ : Datapath := { w₁ with key := key, ks := keySched snap.secret0 snap.secret1 snap.secretLen }
  have hencrypt := runAll_encryptSteps snap (w := w₂) hzero
  let w₃ : Datapath := { w₂ with halves := encryptBlock w₂.cipherKey, out := encryptBlock w₂.cipherKey }
  obtain ⟨ob, gv, hencode, hencoded⟩ := runAll_encodeSteps snap w₃
  have hrun : DatapathStep.runAll snap (commandSteps .hash snap) w = { w₃ with ob := ob, gv := gv } := by
    rw [commandSteps, if_neg hsalt, runAll_cons, runAll_append, runAll_append, hkeysched, hencrypt, hencode]
  rw [hrun]
  exact publish_hash s rfl rfl rfl rfl rfl hencoded

/-- The steps of HASH with an empty salt: SALTMIX's and ENCODE's alone (R195). -/
theorem publish_hashSteps_of_empty {snap : Snapshot} (hsalt : saltLen snap.salt = 0) (w : Datapath) (s : State) :
    (DatapathStep.runAll snap (commandSteps .hash snap) w).publish .hash s = s.withHash 0 w.ks w.out := by
  let w₁ := DatapathStep.run snap w .mixSalt
  obtain ⟨ob, gv, hencode, hencoded⟩ := runAll_encodeSteps snap w₁
  have hrun : DatapathStep.runAll snap (commandSteps .hash snap) w = { w₁ with ob := ob, gv := gv } := by
    rw [commandSteps, if_pos hsalt, runAll_cons, hencode]
  rw [hrun, ← effectiveSalt_of_empty hsalt]
  exact publish_hash s rfl rfl rfl rfl rfl hencoded

/-- Settles O54: each command's steps leave in the working registers what its meaning commits. -/
theorem stepSequenceRefinesTheCommit : Obligations.StepSequenceRefinesTheCommit := by
  unfold Obligations.StepSequenceRefinesTheCommit
  intro i s key ob gv
  cases i
  case nop => exact exec_nop s
  case keysched =>
    obtain ⟨key', hrun⟩ := runAll_keyschedSteps s.operands (Datapath.start s.operands key ob gv)
    rw [commandSteps, hrun]
    exact exec_keysched s
  case saltmix => exact exec_saltmix s
  case encrypt =>
    rw [commandSteps, runAll_encryptSteps s.operands rfl]
    exact exec_encrypt s
  case encode =>
    obtain ⟨ob', gv', hrun, hencoded⟩ := runAll_encodeSteps s.operands (Datapath.start s.operands key ob gv)
    rw [commandSteps, hrun, Datapath.publish, hencoded]
    exact exec_encode s
  case hash =>
    by_cases hsalt : saltLen s.operands.salt = 0
    · rw [publish_hashSteps_of_empty hsalt]
      exact exec_hash_of_empty hsalt
    · rw [publish_hashSteps_of_salt hsalt rfl]
      exact exec_hash_of_salt hsalt
  case clear => exact exec_clear s

/-! ### O55 -/

theorem length_keyschedSteps : keyschedSteps.length = 17 := rfl

theorem length_encryptSteps : encryptSteps.length = 431 := by
  have hiteration : iterationSteps.length = 17 := rfl
  simp [encryptSteps, hiteration]

theorem length_encodeSteps : encodeSteps.length = 12 := rfl

/-- Settles O55: HASH's count is the sum of its components' (R250). -/
theorem stepCounts : Obligations.StepCounts := by
  unfold Obligations.StepCounts
  refine fun snap => ⟨rfl, length_keyschedSteps, rfl, length_encryptSteps, length_encodeSteps, ?_, rfl⟩
  rw [commandSteps]
  split
  · rw [List.length_cons, length_encodeSteps]
  · rw [List.length_cons, List.length_append, List.length_append, length_keyschedSteps, length_encryptSteps,
      length_encodeSteps]

end Sys2Proof.Machine
end
